-- ==== Sys2Proof/Word.lean ====
section
/-! DEFINITION. The bit vectors the spec's quantities are made of (00_scope.md R10: unsigned throughout). -/

namespace Sys2Proof

/-- One byte of `FB` or of a bank of `BPB`, and the eight data wires of the port. -/
abbrev Byte := BitVec 8

/-- A 32-bit register, address or value of host space, and the timer's counter. -/
abbrev Word := BitVec 32

/-- A scan line index, a bit-plane index or the index of a bit in a byte. -/
abbrev Index3 := BitVec 3

/-- One host access in the `HOST` format: rw in bit 64, addr in 63:32, value in 31:0 (30_encoding.md R60). -/
abbrev HostWord := BitVec 65

end Sys2Proof
end

