-- ==== Sys2Proof/Config.lean ====
section
/-! DEFINITION. What an implementation fixes (the parameters of 00_scope.md R7) and the free values. -/

namespace Sys2Proof

/-- The implementation parameters of 00_scope.md R7 (`PIPELINE_DEPTH` is fixed at 0 by the spec and
has no field). The spec gives no values (92_eei_decisions.md D43), so every operation takes them from
the state, which carries them unchanged (log 1). -/
structure Params where
  fbCap  : Nat
  bpbCap : Nat
  tickHz : Nat
  deriving DecidableEq, Repr

/-- The constraints 00_scope.md R7 puts on the parameters. -/
abbrev Params.Legal (p : Params) : Prop :=
  64 ≤ p.fbCap ∧ p.fbCap ≤ 2 ^ 31 ∧ 64 ≤ p.bpbCap ∧ p.bpbCap ≤ 2 ^ 24 ∧ 1 ≤ p.tickHz ∧ p.tickHz < 2 ^ 32

/-- The values the spec's test programs use (95_test_vectors.md, conventions). DESIGN CHOICE: the
parameters of `State.reset` (log 1). -/
def Params.vectors : Params := { fbCap := 65536, bpbCap := 65536, tickHz := 1000000 }

/-- Free value: the `n`-th 32-bit value the spec leaves unspecified (10_state.md R27). Nothing is
known of it (log 8). -/
opaque Config.freeWord : Nat → Word

/-- Free value: the byte at an address of the `n`-th memory whose contents the spec leaves unspecified
(10_state.md R27: `FB` and `BPB` after a reset). Nothing is known of it (log 8). -/
opaque Config.freeByte : Nat → Nat → Byte

end Sys2Proof
end

