-- ==== Sys2Proof/Syntax.lean ====
section
/-! DEFINITION. The operations of the machine (00_scope.md R8): one constructor of `Instr` for each row
of spec/opcode_table.json, and the names their selectors and operands range over. -/

namespace Sys2Proof

/-- The controller's phases (30_encoding.md R68): the machine's program counter. -/
inductive Phase where
  | idle | waitBit | blank | shiftGo | shiftWait | latOn | latHold | latOff | setLine
  | startDim | waitDim | startBit | unblank | advance | vsync | prime
  | lIdle | lBlank | lLatOn | lLatHold | lLatOff | lSetLine | lUnblank | lStopWait | lStopSafe
  deriving DecidableEq, Repr

/-- The shifter's phases (30_encoding.md R69). -/
inductive ShPhase where
  | idle | data | clkhi | clklo | exit
  deriving DecidableEq, Repr

/-- The three compare channels of the timer (10_state.md R17). -/
inductive Chan where
  | bcm | line | on
  deriving DecidableEq, Repr

/-- The two one-shot channels (46_timer.md R171). -/
inductive OneShot where
  | bcm | on
  deriving DecidableEq, Repr

/-- The readable host registers (30_encoding.md R62), in the order of the map. -/
inductive HostReg where
  | ctrl | status | irqEn | port | scan | brightness
  | xres | yres | bpp | refresh | panelW | panelH | nLines | nBits | flags
  | bcmUnit | dimTicks | latchHold | stopTimeout
  | aXres | aYres | aBpp | aRefresh | aPanelW | aPanelH | aNLines | aNBits | aFlags
  | aBcmUnit | aDimTicks | aLatchHold | aStopTimeout
  | nPanels | rowLen | linePeriod | fbBytes | bpbBytes | cols | rows | minPeriod
  deriving DecidableEq, Repr

/-- The kinds of encoded object (30_encoding.md R60). -/
inductive Format where
  | host | phase | lidle | shphase | invoked
  deriving DecidableEq, Repr

/-- The operations, in the order of spec/opcode_table.json. The operands of the `HOST` rows are the
32-bit fields of the access; those of the `INVOKED` rows are what the invoking rule passes
(00_scope.md R11). -/
inductive Instr where
  | start
  | stop
  | modeset
  | cmdReserved (value : Word)
  | wrStatus (value : Word)
  | wrIrqEn (value : Word)
  | wrBrightness (value : Word)
  | wrXres (value : Word)
  | wrYres (value : Word)
  | wrBpp (value : Word)
  | wrRefresh (value : Word)
  | wrPanelW (value : Word)
  | wrPanelH (value : Word)
  | wrNLines (value : Word)
  | wrNBits (value : Word)
  | wrFlags (value : Word)
  | wrBcmUnit (value : Word)
  | wrDimTicks (value : Word)
  | wrLatchHold (value : Word)
  | wrStopTimeout (value : Word)
  | fbWr (addr value : Word)
  | wrIgnored (addr value : Word)
  | rdReg (reg : HostReg)
  | fbRd (addr : Word)
  | rdUnmapped (addr : Word)
  | idle
  | waitBit
  | blank
  | shiftGo
  | shiftWait
  | latOn
  | latHold
  | latOff
  | setLine
  | startDim
  | waitDim
  | startBit
  | unblank
  | advance
  | vsync
  | prime
  | lIdle
  | lBlank
  | lLatOn
  | lLatHold
  | lLatOff
  | lSetLine
  | lUnblank
  | lStopWait
  | lStopSafe
  | lStopReq
  | lDone
  | onExpire
  | lineTick
  | lNop
  | shIdle
  | shData
  | shClkhi
  | shClklo
  | shExit
  | pack
  | lineSelect (n : Index3)
  | startTimer (ch : Chan) (d : Word)
  | disarm (ch : Chan)
  | shStart (bank : Bool) (line plane : Index3)
  | shAbort
  | tmrCount
  | tmrMatchOneshot (ch : OneShot)
  | tmrMatchPeriodic
  | shStall
  | reset
  deriving DecidableEq, Repr

end Sys2Proof
end

