-- ==== Sys2Proof/WellFormed.lean ====
section
/-! DEFINITION. Which terms of `Instr` are operations of the machine: the conditions the table puts on a
row beyond its fixed bits (spec/opcode_table.json, "condition"; 40_host_commands.md R80, R82, R91, R93). -/

namespace Sys2Proof

/-- `addr` lies in the FB window (20_memory.md R42). -/
abbrev InFbWindow (p : Params) (addr : Word) : Prop :=
  0x10000 ≤ addr.toNat ∧ addr.toNat < 0x10000 + p.fbCap

/-- The offsets of REG space (30_encoding.md R62). -/
def regOffsets : List Nat :=
  [0x00, 0x04, 0x08, 0x0C, 0x10, 0x14] ++
  [0x20, 0x24, 0x28, 0x2C, 0x30, 0x34, 0x38, 0x3C, 0x40, 0x44, 0x48, 0x4C, 0x50] ++
  [0x80, 0x84, 0x88, 0x8C, 0x90, 0x94, 0x98, 0x9C, 0xA0, 0xA4, 0xA8, 0xAC, 0xB0] ++
  [0xC0, 0xC4, 0xC8, 0xCC, 0xD0, 0xD4, 0xD8, 0xDC]

/-- The offsets a host write has an effect at (40_host_commands.md R80). -/
def writableOffsets : List Nat :=
  [0x00, 0x04, 0x08, 0x14] ++
  [0x20, 0x24, 0x28, 0x2C, 0x30, 0x34, 0x38, 0x3C, 0x40, 0x44, 0x48, 0x4C, 0x50]

/-- The conditions of the rows of spec/opcode_table.json that have one. -/
abbrev WellFormed (p : Params) : Instr → Prop
  | .cmdReserved v => v ≠ 1 ∧ v ≠ 2 ∧ v ≠ 3
  | .fbWr addr _ => InFbWindow p addr
  | .wrIgnored addr _ => addr.toNat ∉ writableOffsets ∧ ¬ InFbWindow p addr
  | .fbRd addr => InFbWindow p addr
  | .rdUnmapped addr => addr.toNat ∉ regOffsets ∧ ¬ InFbWindow p addr
  | _ => True

end Sys2Proof
end

