-- ==== Sys2Proof/Decode.lean ====
section
/-! DEFINITION. The encodings of 30_encoding.md: selector codes, register offsets, the decoder of each
format, and after it the encoder. -/

namespace Sys2Proof

/-! ## Codes -/

/-- The code of a controller phase (30_encoding.md R68). -/
def Phase.code : Phase → BitVec 5
  | .idle => 0
  | .waitBit => 1
  | .blank => 2
  | .shiftGo => 3
  | .shiftWait => 4
  | .latOn => 5
  | .latHold => 6
  | .latOff => 7
  | .setLine => 8
  | .startDim => 9
  | .waitDim => 10
  | .startBit => 11
  | .unblank => 12
  | .advance => 13
  | .vsync => 14
  | .prime => 15
  | .lIdle => 16
  | .lBlank => 17
  | .lLatOn => 18
  | .lLatHold => 19
  | .lLatOff => 20
  | .lSetLine => 21
  | .lUnblank => 22
  | .lStopWait => 23
  | .lStopSafe => 24

/-- The phase a code names; codes 25 to 31 are reserved (30_encoding.md R68, R77). -/
def Phase.ofCode (c : BitVec 5) : Option Phase :=
  match c.toNat with
  | 0 => some .idle
  | 1 => some .waitBit
  | 2 => some .blank
  | 3 => some .shiftGo
  | 4 => some .shiftWait
  | 5 => some .latOn
  | 6 => some .latHold
  | 7 => some .latOff
  | 8 => some .setLine
  | 9 => some .startDim
  | 10 => some .waitDim
  | 11 => some .startBit
  | 12 => some .unblank
  | 13 => some .advance
  | 14 => some .vsync
  | 15 => some .prime
  | 16 => some .lIdle
  | 17 => some .lBlank
  | 18 => some .lLatOn
  | 19 => some .lLatHold
  | 20 => some .lLatOff
  | 21 => some .lSetLine
  | 22 => some .lUnblank
  | 23 => some .lStopWait
  | 24 => some .lStopSafe
  | _ => none

/-- The operation a phase executes (00_scope.md R8). -/
def Phase.op : Phase → Instr
  | .idle => .idle
  | .waitBit => .waitBit
  | .blank => .blank
  | .shiftGo => .shiftGo
  | .shiftWait => .shiftWait
  | .latOn => .latOn
  | .latHold => .latHold
  | .latOff => .latOff
  | .setLine => .setLine
  | .startDim => .startDim
  | .waitDim => .waitDim
  | .startBit => .startBit
  | .unblank => .unblank
  | .advance => .advance
  | .vsync => .vsync
  | .prime => .prime
  | .lIdle => .lIdle
  | .lBlank => .lBlank
  | .lLatOn => .lLatOn
  | .lLatHold => .lLatHold
  | .lLatOff => .lLatOff
  | .lSetLine => .lSetLine
  | .lUnblank => .lUnblank
  | .lStopWait => .lStopWait
  | .lStopSafe => .lStopSafe

/-- The code of a shifter phase (30_encoding.md R69). -/
def ShPhase.code : ShPhase → BitVec 3
  | .idle => 0
  | .data => 1
  | .clkhi => 2
  | .clklo => 3
  | .exit => 4

/-- The shifter phase a code names; codes 5 to 7 are reserved (30_encoding.md R69, R77). -/
def ShPhase.ofCode (c : BitVec 3) : Option ShPhase :=
  match c.toNat with
  | 0 => some .idle
  | 1 => some .data
  | 2 => some .clkhi
  | 3 => some .clklo
  | 4 => some .exit
  | _ => none

/-- The operation a shifter phase executes (00_scope.md R8). -/
def ShPhase.op : ShPhase → Instr
  | .idle => .shIdle
  | .data => .shData
  | .clkhi => .shClkhi
  | .clklo => .shClklo
  | .exit => .shExit

/-- The byte offset of a host register (30_encoding.md R62). -/
def HostReg.offset : HostReg → Word
  | .ctrl => 0x00
  | .status => 0x04
  | .irqEn => 0x08
  | .port => 0x0C
  | .scan => 0x10
  | .brightness => 0x14
  | .xres => 0x20
  | .yres => 0x24
  | .bpp => 0x28
  | .refresh => 0x2C
  | .panelW => 0x30
  | .panelH => 0x34
  | .nLines => 0x38
  | .nBits => 0x3C
  | .flags => 0x40
  | .bcmUnit => 0x44
  | .dimTicks => 0x48
  | .latchHold => 0x4C
  | .stopTimeout => 0x50
  | .aXres => 0x80
  | .aYres => 0x84
  | .aBpp => 0x88
  | .aRefresh => 0x8C
  | .aPanelW => 0x90
  | .aPanelH => 0x94
  | .aNLines => 0x98
  | .aNBits => 0x9C
  | .aFlags => 0xA0
  | .aBcmUnit => 0xA4
  | .aDimTicks => 0xA8
  | .aLatchHold => 0xAC
  | .aStopTimeout => 0xB0
  | .nPanels => 0xC0
  | .rowLen => 0xC4
  | .linePeriod => 0xC8
  | .fbBytes => 0xCC
  | .bpbBytes => 0xD0
  | .cols => 0xD4
  | .rows => 0xD8
  | .minPeriod => 0xDC

/-- The host register at a byte offset, if the map lists one there (30_encoding.md R62). -/
def HostReg.ofOffset (addr : Word) : Option HostReg :=
  match addr.toNat with
  | 0x00 => some .ctrl
  | 0x04 => some .status
  | 0x08 => some .irqEn
  | 0x0C => some .port
  | 0x10 => some .scan
  | 0x14 => some .brightness
  | 0x20 => some .xres
  | 0x24 => some .yres
  | 0x28 => some .bpp
  | 0x2C => some .refresh
  | 0x30 => some .panelW
  | 0x34 => some .panelH
  | 0x38 => some .nLines
  | 0x3C => some .nBits
  | 0x40 => some .flags
  | 0x44 => some .bcmUnit
  | 0x48 => some .dimTicks
  | 0x4C => some .latchHold
  | 0x50 => some .stopTimeout
  | 0x80 => some .aXres
  | 0x84 => some .aYres
  | 0x88 => some .aBpp
  | 0x8C => some .aRefresh
  | 0x90 => some .aPanelW
  | 0x94 => some .aPanelH
  | 0x98 => some .aNLines
  | 0x9C => some .aNBits
  | 0xA0 => some .aFlags
  | 0xA4 => some .aBcmUnit
  | 0xA8 => some .aDimTicks
  | 0xAC => some .aLatchHold
  | 0xB0 => some .aStopTimeout
  | 0xC0 => some .nPanels
  | 0xC4 => some .rowLen
  | 0xC8 => some .linePeriod
  | 0xCC => some .fbBytes
  | 0xD0 => some .bpbBytes
  | 0xD4 => some .cols
  | 0xD8 => some .rows
  | 0xDC => some .minPeriod
  | _ => none

/-! ## The decoder -/

/-- Why a bit pattern is no operation of its format. -/
inductive Reject where
  /-- the pattern has a bit set above the width of its format -/
  | tooWide
  /-- a `phase` code 25 to 31 (30_encoding.md R77) -/
  | reservedPhase
  /-- an `sh_phase` code 5 to 7 (30_encoding.md R77) -/
  | reservedShPhase
  /-- an `INVOKED` row id outside 1 to 11 (30_encoding.md R76) -/
  | noSuchRow
  /-- operand bits of an `INVOKED` word that stand for no operand (log 11) -/
  | badOperand
  deriving DecidableEq, Repr

/-- Field extraction of the `HOST` format (30_encoding.md R60). -/
def HostWord.rw (w : HostWord) : Bool := w.getLsbD 64

/-- Bits 63:32 of the `HOST` format (30_encoding.md R60). -/
def HostWord.addr (w : HostWord) : Word := w.extractLsb' 32 32

/-- Bits 31:0 of the `HOST` format (30_encoding.md R60). -/
def HostWord.value (w : HostWord) : Word := w.extractLsb' 0 32

/-- The `HOST` word of a write. -/
def HostWord.write (addr value : Word) : HostWord := (1 : BitVec 1) ++ addr ++ value

/-- The `HOST` word of a read; `value` is written as 0 (30_encoding.md R60). -/
def HostWord.read (addr : Word) : HostWord := (0 : BitVec 1) ++ addr ++ (0 : Word)

/-- `addr` lies in the FB window (20_memory.md R42). -/
def inFbWindow (p : Params) (addr : Word) : Bool :=
  decide (0x10000 ≤ addr.toNat) && decide (addr.toNat < 0x10000 + p.fbCap)

/-- A write to `CTRL`: the whole 32-bit value is the command code (30_encoding.md R70). -/
def decodeCommand (value : Word) : Instr :=
  match value.toNat with
  | 1 => .start
  | 2 => .stop
  | 3 => .modeset
  | _ => .cmdReserved value

/-- The write half of 40_host_commands.md R80. -/
def decodeWrite (p : Params) (addr value : Word) : Instr :=
  match addr.toNat with
  | 0x00 => decodeCommand value
  | 0x04 => .wrStatus value
  | 0x08 => .wrIrqEn value
  | 0x14 => .wrBrightness value
  | 0x20 => .wrXres value
  | 0x24 => .wrYres value
  | 0x28 => .wrBpp value
  | 0x2C => .wrRefresh value
  | 0x30 => .wrPanelW value
  | 0x34 => .wrPanelH value
  | 0x38 => .wrNLines value
  | 0x3C => .wrNBits value
  | 0x40 => .wrFlags value
  | 0x44 => .wrBcmUnit value
  | 0x48 => .wrDimTicks value
  | 0x4C => .wrLatchHold value
  | 0x50 => .wrStopTimeout value
  | _ => if inFbWindow p addr then .fbWr addr value else .wrIgnored addr value

/-- The read half of 40_host_commands.md R80; `value` is ignored. -/
def decodeRead (p : Params) (addr : Word) : Instr :=
  match HostReg.ofOffset addr with
  | some r => .rdReg r
  | none => if inFbWindow p addr then .fbRd addr else .rdUnmapped addr

/-- Decoding of a host access, total on 65-bit words (40_host_commands.md R80). -/
def decodeHost (p : Params) (w : HostWord) : Instr :=
  match w.rw with
  | true => decodeWrite p w.addr w.value
  | false => decodeRead p w.addr

/-- The priority decode of `stop_req, ev_done, ev_on, ev_line` inside `L_IDLE` (30_encoding.md R68). -/
def decodeLidle (c : BitVec 4) : Instr :=
  match c.getLsbD 3, c.getLsbD 2, c.getLsbD 1, c.getLsbD 0 with
  | true, _, _, _ => .lStopReq
  | false, true, _, _ => .lDone
  | false, false, true, _ => .onExpire
  | false, false, false, true => .lineTick
  | false, false, false, false => .lNop

/-- Decoding of a `phase` code (30_encoding.md R68, R77). -/
def decodePhase (c : BitVec 5) : Except Reject Instr :=
  match Phase.ofCode c with
  | some ph => .ok ph.op
  | none => .error .reservedPhase

/-- Decoding of an `sh_phase` code (30_encoding.md R69, R77). -/
def decodeShphase (c : BitVec 3) : Except Reject Instr :=
  match ShPhase.ofCode c with
  | some ph => .ok ph.op
  | none => .error .reservedShPhase

/-- An `INVOKED` row without operands. -/
def bareRow (rest : Nat) (i : Instr) : Except Reject Instr :=
  if rest = 0 then .ok i else .error .badOperand

/-- The timer channel of an operand field. -/
def Chan.ofField : Nat → Option Chan
  | 0 => some .bcm
  | 1 => some .line
  | 2 => some .on
  | _ => none

/-- Decoding of an `INVOKED` word: the row id in bits 7:0 (30_encoding.md R76). The operands stand above
it in a layout of the model's own, for the hardware has none: `LINE_SELECT` n in 10:8; `START_TIMER`
channel in 9:8 and d in 41:10; `DISARM` channel in 9:8; `SH_START` bank in 8, line in 11:9, plane in
14:12; `TMR_MATCH_ONESHOT` channel in 8. DESIGN CHOICE (log 11). -/
def decodeInvoked (n : Nat) : Except Reject Instr :=
  let rest := n / 256
  match n % 256 with
  | 1 => bareRow rest .pack
  | 2 => if rest < 8 then .ok (.lineSelect (BitVec.ofNat 3 rest)) else .error .badOperand
  | 3 =>
    match Chan.ofField (rest % 4) with
    | some ch => .ok (.startTimer ch (BitVec.ofNat 32 (rest / 4)))
    | none => .error .badOperand
  | 4 =>
    match Chan.ofField rest with
    | some ch => .ok (.disarm ch)
    | none => .error .badOperand
  | 5 =>
    if rest < 128 then
      .ok (.shStart (rest % 2 == 1) (BitVec.ofNat 3 (rest / 2)) (BitVec.ofNat 3 (rest / 16)))
    else .error .badOperand
  | 6 => bareRow rest .shAbort
  | 7 => bareRow rest .tmrCount
  | 8 => if rest = 0 then .ok (.tmrMatchOneshot .bcm) else bareRow (rest - 1) (.tmrMatchOneshot .on)
  | 9 => bareRow rest .tmrMatchPeriodic
  | 10 => bareRow rest .shStall
  | 11 => bareRow rest .reset
  | _ => .error .noSuchRow

/-- The width in bits of a format's words (30_encoding.md R60; for `INVOKED`, the 8-bit row id and the
longest operand field of log 11). -/
def Format.width : Format → Nat
  | .host => 65
  | .phase => 5
  | .lidle => 4
  | .shphase => 3
  | .invoked => 42

/-- The decoder: the operation a bit pattern selects in its format. -/
def decode (p : Params) (f : Format) (n : Nat) : Except Reject Instr :=
  if 2 ^ f.width ≤ n then .error .tooWide else
  match f with
  | .host => .ok (decodeHost p (BitVec.ofNat 65 n))
  | .phase => decodePhase (BitVec.ofNat 5 n)
  | .lidle => .ok (decodeLidle (BitVec.ofNat 4 n))
  | .shphase => decodeShphase (BitVec.ofNat 3 n)
  | .invoked => decodeInvoked n

/-- The format a table row of `nbits` bits has. The table's four short formats all fill one byte, and
their selectors overlap, so a width of 8 is read as a `phase` code. DESIGN CHOICE (log 12). -/
def formatOfWidth (nbits : Nat) : Format :=
  match nbits with
  | 3 => .shphase
  | 4 => .lidle
  | 5 => .phase
  | 8 => .phase
  | _ => if nbits ≤ 48 then .invoked else .host

/-- The operation the decoder reads from a table word, with the parameters of the spec's vectors. -/
def decodeTableWord (nbits w : Nat) : Option Instr :=
  match decode Params.vectors (formatOfWidth nbits) w with
  | .ok i => some i
  | .error _ => none

/-! ## The encoder -/

/-- The number a timer channel has in an operand field (log 11). -/
def Chan.field : Chan → Nat
  | .bcm => 0
  | .line => 1
  | .on => 2

/-- The number a one-shot channel has in an operand field (log 11). -/
def OneShot.field : OneShot → Nat
  | .bcm => 0
  | .on => 1

/-- An `INVOKED` word. -/
def invokedWord (id rest : Nat) : Nat := id + 256 * rest

/-- The format of an operation and its bits in it (30_encoding.md R60, R62, R68 to R70, R76). Bits the
table does not fix are 0. -/
def encode : Instr → Format × Nat
  | .start => (.host, (HostWord.write 0x00 1).toNat)
  | .stop => (.host, (HostWord.write 0x00 2).toNat)
  | .modeset => (.host, (HostWord.write 0x00 3).toNat)
  | .cmdReserved v => (.host, (HostWord.write 0x00 v).toNat)
  | .wrStatus v => (.host, (HostWord.write 0x04 v).toNat)
  | .wrIrqEn v => (.host, (HostWord.write 0x08 v).toNat)
  | .wrBrightness v => (.host, (HostWord.write 0x14 v).toNat)
  | .wrXres v => (.host, (HostWord.write 0x20 v).toNat)
  | .wrYres v => (.host, (HostWord.write 0x24 v).toNat)
  | .wrBpp v => (.host, (HostWord.write 0x28 v).toNat)
  | .wrRefresh v => (.host, (HostWord.write 0x2C v).toNat)
  | .wrPanelW v => (.host, (HostWord.write 0x30 v).toNat)
  | .wrPanelH v => (.host, (HostWord.write 0x34 v).toNat)
  | .wrNLines v => (.host, (HostWord.write 0x38 v).toNat)
  | .wrNBits v => (.host, (HostWord.write 0x3C v).toNat)
  | .wrFlags v => (.host, (HostWord.write 0x40 v).toNat)
  | .wrBcmUnit v => (.host, (HostWord.write 0x44 v).toNat)
  | .wrDimTicks v => (.host, (HostWord.write 0x48 v).toNat)
  | .wrLatchHold v => (.host, (HostWord.write 0x4C v).toNat)
  | .wrStopTimeout v => (.host, (HostWord.write 0x50 v).toNat)
  | .fbWr addr v => (.host, (HostWord.write addr v).toNat)
  | .wrIgnored addr v => (.host, (HostWord.write addr v).toNat)
  | .rdReg r => (.host, (HostWord.read r.offset).toNat)
  | .fbRd addr => (.host, (HostWord.read addr).toNat)
  | .rdUnmapped addr => (.host, (HostWord.read addr).toNat)
  | .idle => (.phase, 0)
  | .waitBit => (.phase, 1)
  | .blank => (.phase, 2)
  | .shiftGo => (.phase, 3)
  | .shiftWait => (.phase, 4)
  | .latOn => (.phase, 5)
  | .latHold => (.phase, 6)
  | .latOff => (.phase, 7)
  | .setLine => (.phase, 8)
  | .startDim => (.phase, 9)
  | .waitDim => (.phase, 10)
  | .startBit => (.phase, 11)
  | .unblank => (.phase, 12)
  | .advance => (.phase, 13)
  | .vsync => (.phase, 14)
  | .prime => (.phase, 15)
  | .lIdle => (.phase, 16)
  | .lBlank => (.phase, 17)
  | .lLatOn => (.phase, 18)
  | .lLatHold => (.phase, 19)
  | .lLatOff => (.phase, 20)
  | .lSetLine => (.phase, 21)
  | .lUnblank => (.phase, 22)
  | .lStopWait => (.phase, 23)
  | .lStopSafe => (.phase, 24)
  | .lStopReq => (.lidle, 8)
  | .lDone => (.lidle, 4)
  | .onExpire => (.lidle, 2)
  | .lineTick => (.lidle, 1)
  | .lNop => (.lidle, 0)
  | .shIdle => (.shphase, 0)
  | .shData => (.shphase, 1)
  | .shClkhi => (.shphase, 2)
  | .shClklo => (.shphase, 3)
  | .shExit => (.shphase, 4)
  | .pack => (.invoked, invokedWord 1 0)
  | .lineSelect n => (.invoked, invokedWord 2 n.toNat)
  | .startTimer ch d => (.invoked, invokedWord 3 (ch.field + 4 * d.toNat))
  | .disarm ch => (.invoked, invokedWord 4 ch.field)
  | .shStart bank line plane => (.invoked, invokedWord 5 (bank.toNat + 2 * line.toNat + 16 * plane.toNat))
  | .shAbort => (.invoked, invokedWord 6 0)
  | .tmrCount => (.invoked, invokedWord 7 0)
  | .tmrMatchOneshot ch => (.invoked, invokedWord 8 ch.field)
  | .tmrMatchPeriodic => (.invoked, invokedWord 9 0)
  | .shStall => (.invoked, invokedWord 10 0)
  | .reset => (.invoked, invokedWord 11 0)

end Sys2Proof
end

