-- ==== Sys2Proof/Machine/Memory.lean ====
section
/-! DEFINITION. A byte memory: `FB` and the two banks of `BPB` (10_state.md R24, 20_memory.md R41). -/

namespace Sys2Proof.Machine

/-- What a memory holds where nothing has been written: zeros (the memories of `State.reset`,
DESIGN CHOICE, logs 6 and 7) or the `n`-th free contents (after the operation RESET, log 8). -/
inductive Fill where
  | zeros
  | free (n : Nat)
  deriving DecidableEq, Repr

/-- A memory of bytes: what unlisted addresses hold, and the listed cells. Its one canonical form is
`Memory.wf`. -/
structure Memory where
  fill  : Fill
  cells : List Host.Cell
  deriving DecidableEq, Repr

/-- What an unlisted address reads as. -/
def Memory.unlisted (m : Memory) (a : Nat) : Byte :=
  match m.fill with
  | .zeros => 0
  | .free n => Config.freeByte n a

/-- The byte listed at an address. -/
def lookupCell : List Host.Cell → Nat → Option Byte
  | [], _ => none
  | (a', b) :: r, a => if a = a' then some b else lookupCell r a

/-- The cells with `a` holding `b`, addresses kept rising. -/
def insertCell : List Host.Cell → Nat → Byte → List Host.Cell
  | [], a, b => [(a, b)]
  | (a', b') :: r, a, b =>
    if a < a' then (a, b) :: (a', b') :: r
    else if a = a' then (a, b) :: r
    else (a', b') :: insertCell r a b

/-- The cells without `a`. -/
def eraseCell : List Host.Cell → Nat → List Host.Cell
  | [], _ => []
  | (a', b') :: r, a => if a = a' then eraseCell r a else (a', b') :: eraseCell r a

/-- `MemRead(space, a, 1)` (00_scope.md R11). -/
def Memory.read (m : Memory) (a : Nat) : Byte :=
  match lookupCell m.cells a with
  | some b => b
  | none => m.unlisted a

/-- `MemWrite(space, a, 1, b)` (00_scope.md R11). Writing what an unlisted address reads as removes the
entry, so equal memories are equal data. -/
def Memory.write (m : Memory) (a : Nat) (b : Byte) : Memory :=
  if b = m.unlisted a then { m with cells := eraseCell m.cells a }
  else { m with cells := insertCell m.cells a b }

/-- Addresses rise strictly. -/
def risingCells : List Host.Cell → Bool
  | [] => true
  | [_] => true
  | (a, _) :: (a', b') :: r => decide (a < a') && risingCells ((a', b') :: r)

/-- The canonical form: addresses strictly rising, no entry equal to what an unlisted address reads as. -/
def Memory.wf (m : Memory) : Bool :=
  risingCells m.cells && m.cells.all fun c => decide (c.2 ≠ m.unlisted c.1)

/-- No listed address at or beyond a capacity. -/
def Memory.within (m : Memory) (cap : Nat) : Bool :=
  m.cells.all fun c => decide (c.1 < cap)

end Sys2Proof.Machine
end

