-- ==== Sys2Proof/Machine/Regs.lean ====
section
/-! DEFINITION. The registers that come in groups: port, timer channel, sticky flags, staged and active
configuration, and the inputs of a tick. -/

namespace Sys2Proof.Machine

/-- The panel port register (10_state.md R19, 20_memory.md R46). -/
structure Port where
  data : Byte
  clk  : Bool
  lat  : Bool
  oeN  : Bool
  addr : Index3
  deriving DecidableEq, Repr

/-- One compare channel of the timer (10_state.md R17). -/
structure Channel where
  cmp : Word
  arm : Bool
  ev  : Bool
  deriving DecidableEq, Repr

/-- Four bits in the places of the sticky flags: `sticky`, `irq_en`, and what a write to `STATUS` or
`IRQ_EN` selects (10_state.md R18, R23; 30_encoding.md R65, R73). -/
structure StatusBits where
  vsync       : Bool := false
  errNomem    : Bool := false
  stopTimeout : Bool := false
  errCmd      : Bool := false
  deriving DecidableEq, Repr

/-- The staged configuration (10_state.md R21). -/
structure Stg where
  xres        : BitVec 16
  yres        : BitVec 16
  bpp         : BitVec 8
  refresh     : BitVec 16
  panelW      : BitVec 16
  panelH      : BitVec 16
  nLines      : BitVec 8
  nBits       : BitVec 8
  flags       : BitVec 3
  bcmUnit     : Word
  dimTicks    : Word
  latchHold   : BitVec 16
  stopTimeout : Word
  deriving DecidableEq, Repr

/-- `cfg.REGIME`: 0 is BCM, 1 is LINE (00_scope.md R3). -/
inductive Regime where
  | bcm | line
  deriving DecidableEq, Repr

/-- `cfg.WIRING`: 0 is vertical-first, 1 is horizontal-first (30_encoding.md R67). -/
inductive Wiring where
  | vertical | horizontal
  deriving DecidableEq, Repr

/-- `cfg.BPP`: 1 is the mono format, 8 the RGB format (30_encoding.md R63, R64). -/
inductive PixelFormat where
  | mono | rgb
  deriving DecidableEq, Repr

/-- The active configuration (10_state.md R22): quantities are naturals, as that rule has them. -/
structure Cfg where
  regime      : Regime
  wiring      : Wiring
  bitrev      : Bool
  bpp         : PixelFormat
  nLines      : Nat
  nBits       : Nat
  panelW      : Nat
  panelH      : Nat
  xres        : Nat
  yres        : Nat
  cols        : Nat
  rows        : Nat
  nPanels     : Nat
  rowLen      : Nat
  fbBytes     : Nat
  bpbBytes    : Nat
  bcmUnit     : Nat
  dimTicks    : Nat
  latchHold   : Nat
  stopTimeout : Nat
  refresh     : Nat
  xferTicks   : Nat
  minPeriod   : Nat
  linePeriod  : Nat
  deriving DecidableEq, Repr

/-- The environment's inputs of one tick (20_memory.md R40); `hostOp = none` is `NONE`. -/
structure TickIn where
  rst     : Bool := false
  hostOp  : Option HostWord := none
  txStall : Bool := false
  deriving DecidableEq, Repr

/-- The safe state of the port, the value `0x0400` (20_memory.md R48). -/
def Port.safe : Port := { data := 0, clk := false, lat := false, oeN := true, addr := 0 }

/-- The 14-bit port value (20_memory.md R46). -/
def Port.word (p : Port) : BitVec 14 :=
  p.addr ++ BitVec.ofBool p.oeN ++ BitVec.ofBool p.lat ++ BitVec.ofBool p.clk ++ p.data

/-- The flags at their bits of `STATUS` and `IRQ_EN`: 2, 3, 4 and 6 (30_encoding.md R65). -/
def StatusBits.word (b : StatusBits) : Word :=
  BitVec.ofNat 32
    (b.vsync.toNat * 2 ^ 2 + b.errNomem.toNat * 2 ^ 3 + b.stopTimeout.toNat * 2 ^ 4 + b.errCmd.toNat * 2 ^ 6)

/-- What is left of a written value under the mask `0x5C` (30_encoding.md R65, R73). -/
def StatusBits.ofWord (v : Word) : StatusBits :=
  { vsync := v.getLsbD 2, errNomem := v.getLsbD 3, stopTimeout := v.getLsbD 4, errCmd := v.getLsbD 6 }

/-- Some flag is set in both. -/
def StatusBits.meets (a b : StatusBits) : Bool :=
  (a.vsync && b.vsync) || (a.errNomem && b.errNomem) || (a.stopTimeout && b.stopTimeout) ||
    (a.errCmd && b.errCmd)

/-- The reset column of 10_state.md R21. -/
def Stg.reset : Stg :=
  { xres := 32, yres := 16, bpp := 1, refresh := 60, panelW := 32, panelH := 16, nLines := 4, nBits := 1,
    flags := 0b100, bcmUnit := 16, dimTicks := 4, latchHold := 1, stopTimeout := 4096 }

/-- The bit of `FLAGS` a regime has (30_encoding.md R67). -/
def Regime.bit : Regime → Bool
  | .bcm => false
  | .line => true

/-- The bit of `FLAGS` a wiring has (30_encoding.md R67). -/
def Wiring.bit : Wiring → Bool
  | .vertical => false
  | .horizontal => true

/-- The value of `BPP` of a pixel format (10_state.md R22). -/
def PixelFormat.bpp : PixelFormat → Nat
  | .mono => 1
  | .rgb => 8

/-- `PER_BYTE`: the shifter ticks of one byte of a row (10_state.md R22). -/
def PixelFormat.perByte : PixelFormat → Nat
  | .mono => 24
  | .rgb => 3

end Sys2Proof.Machine
end

