-- ==== Sys2Proof/Machine/Validate.lean ====
section
/-! DEFINITION. Configuration validation: the pseudocode of 40_host_commands.md R90 and the table of
30_encoding.md R67. -/

namespace Sys2Proof.Machine

/-- `clamp(v, lo, hi)` (00_scope.md R10). -/
def clampTo (v lo hi : Nat) : Nat :=
  if v < lo then lo else if hi < v then hi else v

/-- `roundup(v, m)`: the least multiple of `m` that is at least `v`, for `m >= 1` (00_scope.md R10). -/
def roundUp (v m : Nat) : Nat := (v + m - 1) / m * m

/-- The active configuration `MODESET` computes from the staged one (40_host_commands.md R90). -/
def validate (p : Params) (g : Stg) : Cfg :=
  let regime := match g.flags.getLsbD 2 with | true => Regime.line | false => Regime.bcm
  let wiring := match g.flags.getLsbD 0 with | true => Wiring.horizontal | false => Wiring.vertical
  let nLines := clampTo g.nLines.toNat 1 8
  let bpp := if g.bpp.toNat ≤ 1 then PixelFormat.mono else PixelFormat.rgb
  let nBits := if regime = .line ∨ bpp = .mono then 1 else clampTo g.nBits.toNat 1 8
  let panelW := roundUp (clampTo g.panelW.toNat 8 1024) 8
  let panelH :=
    match bpp with
    | .rgb => 2 * nLines
    | .mono => roundUp (clampTo g.panelH.toNat nLines 1024) nLines
  let xres := roundUp (max g.xres.toNat 1) panelW
  let yres := roundUp (max g.yres.toNat 1) panelH
  let cols := xres / panelW
  let rows := yres / panelH
  let nPanels := cols * rows
  let rowLen :=
    match bpp with
    | .rgb => panelW * nPanels
    | .mono => panelW * panelH * nPanels / (8 * nLines)
  let fbBytes :=
    match bpp with
    | .rgb => 3 * xres * yres
    | .mono => xres * yres / 8
  let latchHold := g.latchHold.toNat
  let refresh := clampTo g.refresh.toNat 1 65535
  let xferTicks := bpp.perByte * rowLen + 1
  let minPeriod := xferTicks + latchHold + 10
  { regime, wiring, bitrev := g.flags.getLsbD 1, bpp, nLines, nBits, panelW, panelH, xres, yres, cols, rows,
    nPanels, rowLen, fbBytes,
    bpbBytes := nLines * nBits * rowLen,
    bcmUnit := clampTo g.bcmUnit.toNat 4 (2 ^ 24 - 1),
    dimTicks := clampTo g.dimTicks.toNat 0 (2 ^ 24 - 1),
    latchHold, stopTimeout := g.stopTimeout.toNat, refresh, xferTicks, minPeriod,
    linePeriod := max minPeriod (p.tickHz / (refresh * nLines)) }

/-- The capacity test of `MODESET` (40_host_commands.md R90; 60_exceptions.md R181). -/
def Cfg.fits (p : Params) (c : Cfg) : Bool :=
  decide (c.fbBytes ≤ p.fbCap) && decide (c.bpbBytes ≤ p.bpbCap)

end Sys2Proof.Machine
end

