-- ==== Sys2Proof/Machine/State.lean ====
section
/-! DEFINITION. The state of the machine (10_state.md R13 to R27), the reasons a step can stop, and the
machine after reset. -/

namespace Sys2Proof.Machine

/-- The state: everything 10_state.md R13 names, the parameters the operations take (log 1), and the
model's own fields `inputs` (log 2), `rdData` (log 3) and `draws` (log 8). -/
structure State where
  /-- the implementation parameters, never written (00_scope.md R7) -/
  params     : Params
  /-- controller registers (10_state.md R14) -/
  phase      : Phase
  line       : Index3
  bit        : Index3
  scan       : Index3
  xferLine   : Index3
  rdBank     : Bool
  dly        : BitVec 16
  stopCnt    : Word
  stopReq    : Bool
  /-- shifter registers (10_state.md R16) -/
  shPhase    : ShPhase
  shBank     : Bool
  shLine     : Index3
  shPlane    : Index3
  shIdx      : Word
  shBit      : Index3
  evDone     : Bool
  /-- timer registers (10_state.md R17) -/
  cnt        : Word
  tBcm       : Channel
  tLine      : Channel
  tOn        : Channel
  /-- the panel port (10_state.md R19) -/
  port       : Port
  /-- host registers (10_state.md R20 to R23) -/
  sticky     : StatusBits
  irqEn      : StatusBits
  brightness : Byte
  stg        : Stg
  cfg        : Cfg
  /-- memories (10_state.md R24) -/
  fb         : Memory
  bpb0       : Memory
  bpb1       : Memory
  /-- the output `rd_data` of the last tick (20_memory.md R40) -/
  rdData     : Word
  /-- the inputs of the ticks to come, the next first; past its end the environment is quiet -/
  inputs     : List TickIn
  /-- how many free values have been drawn -/
  draws      : Nat
  deriving DecidableEq, Repr

/-- Why the machine stops with a fault. The spec names no fault (60_exceptions.md R189); these two stand
for accesses to bytes that do not exist, which no reachable state makes (log 14). -/
inductive Fault where
  /-- raised by `PACK` (alone, and in `PRIME` and `VSYNC`) when a byte it reads lies at or beyond
  `FB_CAP`; safe -/
  | fbNoSuchByte
  /-- raised by `PACK` (alone, and in `PRIME` and `VSYNC`) and `SH_DATA` when a byte of a bank lies at or
  beyond `BPB_CAP`; safe -/
  | bpbNoSuchByte
  deriving DecidableEq, Repr

/-- Why a step gives an instruction no meaning. -/
inductive Refusal where
  /-- raised by an arm of `exec` whose instruction has no meaning in the model yet (no arm is such); safe -/
  | notModelled (mnemonic : String)
  deriving DecidableEq, Repr

/-- The reset values of 10_state.md R27 for given parameters. The values R27 leaves unspecified are named
here (DESIGN CHOICE, logs 4 to 7): `cnt` and the compare values 0, every byte of `FB` and `BPB` 0. -/
def State.resetWith (p : Params) : State :=
  { params := p
    phase := .idle, line := 0, bit := 0, scan := 0, xferLine := 0, rdBank := false, dly := 0, stopCnt := 0,
    stopReq := false
    shPhase := .idle, shBank := false, shLine := 0, shPlane := 0, shIdx := 0, shBit := 7, evDone := false
    cnt := 0
    tBcm := { cmp := 0, arm := false, ev := false }
    tLine := { cmp := 0, arm := false, ev := false }
    tOn := { cmp := 0, arm := false, ev := false }
    port := Port.safe
    sticky := {}, irqEn := {}, brightness := 255, stg := Stg.reset, cfg := validate p Stg.reset
    fb := { fill := .zeros, cells := [] }
    bpb0 := { fill := .zeros, cells := [] }
    bpb1 := { fill := .zeros, cells := [] }
    rdData := 0, inputs := [], draws := 0 }

/-- The machine right after reset (10_state.md R27, 70_reset_and_hazards.md R201), with the parameters of
the spec's vectors (log 1). -/
def State.reset : State := State.resetWith Params.vectors

end Sys2Proof.Machine
end

