-- ==== Sys2Proof/Machine/Flags.lean ====
section
/-! DEFINITION. The flags: the derived status bits, the interrupt line, and how each contested flag comes
out of a tick (20_memory.md R49). -/

namespace Sys2Proof.Machine

/-! ## Derived status -/

/-- `STATUS.RUNNING` (30_encoding.md R65). -/
def State.running (s : State) : Bool := decide (s.phase ≠ .idle)

/-- `STATUS.XFER_BUSY` (30_encoding.md R65). -/
def State.xferBusy (s : State) : Bool := decide (s.shPhase ≠ .idle)

/-- `STATUS.CMD_BUSY`, the `busy` of 40_host_commands.md R94. -/
def State.busy (s : State) : Bool :=
  s.stopReq || decide (s.phase = .lStopWait) || decide (s.phase = .lStopSafe)

/-- The `STATUS` register as the host reads it (30_encoding.md R65, 40_host_commands.md R81). -/
def State.status (s : State) : Word :=
  s.sticky.word |||
    BitVec.ofNat 32 (s.running.toNat * 2 ^ 0 + s.xferBusy.toNat * 2 ^ 1 + s.busy.toNat * 2 ^ 5)

/-- The interrupt output (60_exceptions.md R186). -/
def State.irq (s : State) : Bool := s.sticky.meets s.irqEn

/-! ## Sticky flags -/

/-- The four sticky flags (10_state.md R18). -/
inductive StickyFlag where
  | vsync | errNomem | stopTimeout | errCmd
  deriving DecidableEq, Repr

/-- The flag alone. -/
def StickyFlag.bits : StickyFlag → StatusBits
  | .vsync => { vsync := true }
  | .errNomem => { errNomem := true }
  | .stopTimeout => { stopTimeout := true }
  | .errCmd => { errCmd := true }

/-- The bits of either. -/
def StatusBits.union (a b : StatusBits) : StatusBits :=
  { vsync := a.vsync || b.vsync, errNomem := a.errNomem || b.errNomem,
    stopTimeout := a.stopTimeout || b.stopTimeout, errCmd := a.errCmd || b.errCmd }

/-- One flag under a set and a clear of the same tick: set wins (20_memory.md R49). -/
def settleFlag (set clear old : Bool) : Bool :=
  match set with
  | true => true
  | false => match clear with
    | true => false
    | false => old

/-- The sticky flags at the end of a tick: a raise wins over a write-1-to-clear (20_memory.md R49,
40_host_commands.md R83). -/
def settleSticky (old raised cleared : StatusBits) : StatusBits :=
  { vsync := settleFlag raised.vsync cleared.vsync old.vsync
    errNomem := settleFlag raised.errNomem cleared.errNomem old.errNomem
    stopTimeout := settleFlag raised.stopTimeout cleared.stopTimeout old.stopTimeout
    errCmd := settleFlag raised.errCmd cleared.errCmd old.errCmd }

/-! ## Timer channels -/

/-- What one tick asks of a timer channel: a consumer's clear of the event, a match (the compare value and
the armed bit it leaves), a `DISARM`, a `START_TIMER` with its duration. -/
structure ChanReq where
  clear  : Bool := false
  hit    : Option (Word × Bool) := none
  disarm : Bool := false
  start  : Option Word := none
  deriving DecidableEq, Repr

/-- The requests of both. -/
def ChanReq.join (a b : ChanReq) : ChanReq :=
  { clear := a.clear || b.clear, hit := a.hit.or b.hit, disarm := a.disarm || b.disarm,
    start := a.start.or b.start }

/-- A channel at the end of a tick: `START_TIMER` over `DISARM` over match over consumer clear
(20_memory.md R49; 46_timer.md R171 to R174). Where `DISARM` meets a match, the compare value keeps its
pre-tick value (R174; DEDUCED, log 10). -/
def settleChan (cnt : Word) (c : Channel) (r : ChanReq) : Channel :=
  match r.start with
  | some d => { cmp := cnt + d, arm := decide (2 ≤ d.toNat), ev := decide (d.toNat ≤ 1) }
  | none =>
    match r.disarm with
    | true => { c with arm := false, ev := false }
    | false =>
      match r.hit with
      | some (cmp, arm) => { cmp := cmp, arm := arm, ev := true }
      | none =>
        match r.clear with
        | true => { c with ev := false }
        | false => c

end Sys2Proof.Machine
end

