-- ==== Sys2Proof/Machine/Ops.lean ====
section
/-! DEFINITION. What operations write, how the writes of one tick commit together (00_scope.md R6,
20_memory.md R47, R49), and the shared operations: `raise`, the port's safe state, the bank accessors. -/

namespace Sys2Proof.Machine

/-- The writes of one or more operations of a tick: `none` and the empty requests leave a field as it was
(00_scope.md R10). A field of `PORT` the shifter and the controller may both write has an entry for each. -/
structure Effect where
  /-- controller registers -/
  phase      : Option Phase := none
  line       : Option Index3 := none
  bit        : Option Index3 := none
  scan       : Option Index3 := none
  xferLine   : Option Index3 := none
  rdBank     : Option Bool := none
  dly        : Option (BitVec 16) := none
  stopCnt    : Option Word := none
  stopReq    : Option Bool := none
  /-- the port as the controller writes it -/
  data       : Option Byte := none
  clk        : Option Bool := none
  lat        : Option Bool := none
  oeN        : Option Bool := none
  addr       : Option Index3 := none
  /-- the shifter's own step -/
  shPhase    : Option ShPhase := none
  shIdx      : Option Word := none
  shBit      : Option Index3 := none
  shData     : Option Byte := none
  shClk      : Option Bool := none
  /-- `SH_START(bank, line, plane)` and `SH_ABORT` -/
  shStart    : Option (Bool × Index3 × Index3) := none
  shAbort    : Bool := false
  /-- `ev_done`: `SH_EXIT` sets it, a consumer or `L_STOP_SAFE` clears it -/
  doneSet    : Bool := false
  doneClear  : Bool := false
  /-- timer -/
  cnt        : Option Word := none
  tBcm       : ChanReq := {}
  tLine      : ChanReq := {}
  tOn        : ChanReq := {}
  /-- sticky flags raised, and cleared by the host -/
  raised     : StatusBits := {}
  cleared    : StatusBits := {}
  /-- host registers and output -/
  irqEn      : Option StatusBits := none
  brightness : Option Byte := none
  stg        : Option Stg := none
  cfg        : Option Cfg := none
  rdData     : Option Word := none
  /-- memories: `FB`, and the bank `PACK` rebuilds with its new contents -/
  fb         : Option Memory := none
  bank       : Option (Bool × Memory) := none
  deriving DecidableEq, Repr

/-- The writes of both. -/
def Effect.join (a b : Effect) : Effect :=
  { phase := a.phase.or b.phase, line := a.line.or b.line, bit := a.bit.or b.bit, scan := a.scan.or b.scan
    xferLine := a.xferLine.or b.xferLine, rdBank := a.rdBank.or b.rdBank, dly := a.dly.or b.dly
    stopCnt := a.stopCnt.or b.stopCnt, stopReq := a.stopReq.or b.stopReq
    data := a.data.or b.data, clk := a.clk.or b.clk, lat := a.lat.or b.lat, oeN := a.oeN.or b.oeN
    addr := a.addr.or b.addr
    shPhase := a.shPhase.or b.shPhase, shIdx := a.shIdx.or b.shIdx, shBit := a.shBit.or b.shBit
    shData := a.shData.or b.shData, shClk := a.shClk.or b.shClk
    shStart := a.shStart.or b.shStart, shAbort := a.shAbort || b.shAbort
    doneSet := a.doneSet || b.doneSet, doneClear := a.doneClear || b.doneClear
    cnt := a.cnt.or b.cnt
    tBcm := a.tBcm.join b.tBcm, tLine := a.tLine.join b.tLine, tOn := a.tOn.join b.tOn
    raised := a.raised.union b.raised, cleared := a.cleared.union b.cleared
    irqEn := a.irqEn.or b.irqEn, brightness := a.brightness.or b.brightness, stg := a.stg.or b.stg
    cfg := a.cfg.or b.cfg, rdData := a.rdData.or b.rdData
    fb := a.fb.or b.fb, bank := a.bank.or b.bank }

/-! ## Committing a tick -/

/-- `sh_phase`: `SH_ABORT` over `SH_START` over the shifter's step (20_memory.md R49). -/
def settleShPhase (old : ShPhase) (e : Effect) : ShPhase :=
  match e.shAbort with
  | true => .idle
  | false => match e.shStart with
    | some _ => .data
    | none => e.shPhase.getD old

/-- `sh_idx`: both `SH_ABORT` and `SH_START` write 0 (42_shifter.md R111, R116). -/
def settleShIdx (old : Word) (e : Effect) : Word :=
  match e.shAbort with
  | true => 0
  | false => match e.shStart with
    | some _ => 0
    | none => e.shIdx.getD old

/-- `sh_bit`: both `SH_ABORT` and `SH_START` write 7 (42_shifter.md R111, R116). -/
def settleShBit (old : Index3) (e : Effect) : Index3 :=
  match e.shAbort with
  | true => 7
  | false => match e.shStart with
    | some _ => 7
    | none => e.shBit.getD old

/-- `ev_done`: the clear of `SH_START` or `SH_ABORT` over the set of `SH_EXIT` over a consumer's clear
(20_memory.md R49). -/
def settleDone (old : Bool) (e : Effect) : Bool :=
  match e.shAbort with
  | true => false
  | false => match e.shStart with
    | some _ => false
    | none => settleFlag e.doneSet e.doneClear old

/-- The port at the end of a tick: a write per field, the controller's over the shifter's
(20_memory.md R47, R49). -/
def settlePort (old : Port) (e : Effect) : Port :=
  { data := e.data.getD (e.shData.getD old.data)
    clk := e.clk.getD (e.shClk.getD old.clk)
    lat := e.lat.getD old.lat
    oeN := e.oeN.getD old.oeN
    addr := e.addr.getD old.addr }

/-- The bank `b` at the end of a tick. -/
def settleBank (b : Bool) (old : Memory) (e : Effect) : Memory :=
  match e.bank with
  | some (b', m) => bif b == b' then m else old
  | none => old

/-- The state after a tick whose operations wrote `e`, over the pre-tick state (00_scope.md R6). -/
def commit (s : State) (e : Effect) : State :=
  { s with
    phase := e.phase.getD s.phase
    line := e.line.getD s.line
    bit := e.bit.getD s.bit
    scan := e.scan.getD s.scan
    xferLine := e.xferLine.getD s.xferLine
    rdBank := e.rdBank.getD s.rdBank
    dly := e.dly.getD s.dly
    stopCnt := e.stopCnt.getD s.stopCnt
    stopReq := e.stopReq.getD s.stopReq
    shPhase := settleShPhase s.shPhase e
    shBank := (e.shStart.map fun o => o.1).getD s.shBank
    shLine := (e.shStart.map fun o => o.2.1).getD s.shLine
    shPlane := (e.shStart.map fun o => o.2.2).getD s.shPlane
    shIdx := settleShIdx s.shIdx e
    shBit := settleShBit s.shBit e
    evDone := settleDone s.evDone e
    cnt := e.cnt.getD s.cnt
    tBcm := settleChan s.cnt s.tBcm e.tBcm
    tLine := settleChan s.cnt s.tLine e.tLine
    tOn := settleChan s.cnt s.tOn e.tOn
    port := settlePort s.port e
    sticky := settleSticky s.sticky e.raised e.cleared
    irqEn := e.irqEn.getD s.irqEn
    brightness := e.brightness.getD s.brightness
    stg := e.stg.getD s.stg
    cfg := e.cfg.getD s.cfg
    fb := e.fb.getD s.fb
    bpb0 := settleBank false s.bpb0 e
    bpb1 := settleBank true s.bpb1 e
    rdData := e.rdData.getD s.rdData }

/-- One operation by itself: its writes committed, or the fault that stops it. -/
def solo (e : Except Fault Effect) (s : State) : Host.Outcome State Fault Refusal :=
  match e with
  | .ok e => .next (commit s e)
  | .error f => .fault f

/-! ## Shared operations -/

/-- `raise E`, the machine's only exception mechanism (60_exceptions.md R180): the sticky flag is set at
the end of the tick and nothing else happens. Nothing is saved, no mode or mask changes, `phase` is not
redirected, and there is no return operation (R191). -/
def Effect.raise (f : StickyFlag) : Effect := { raised := f.bits }

/-- `PORT <- 0x0400`, all five fields (45_vsync_controller.md R165). -/
def Effect.portSafe : Effect :=
  { data := some 0, clk := some false, lat := some false, oeN := some true, addr := some 0 }

/-- A request on one timer channel. -/
def Effect.onChan (ch : Chan) (r : ChanReq) : Effect :=
  match ch with
  | .bcm => { tBcm := r }
  | .line => { tLine := r }
  | .on => { tOn := r }

/-- The registers of one timer channel. -/
def State.chan (s : State) : Chan → Channel
  | .bcm => s.tBcm
  | .line => s.tLine
  | .on => s.tOn

/-- `BPB[b]`. -/
def State.bank (s : State) (b : Bool) : Memory :=
  match b with
  | false => s.bpb0
  | true => s.bpb1

/-- The environment's inputs of the next tick; past the end of the list, `host_op = NONE` and no stall
(30_encoding.md R75, log 2). -/
def State.input (s : State) : TickIn := s.inputs.headD {}

/-- The pre-tick state of a tick whose inputs are taken: `rd_data` is 0 unless an `RD` of this tick gives
it a value (20_memory.md R40). -/
def State.beginTick (s : State) : State := { s with inputs := s.inputs.tail, rdData := 0 }

end Sys2Proof.Machine
end

