-- ==== Sys2Proof/Machine/Operands.lean ====
section
/-! DEFINITION. How operands are formed (30_encoding.md R78): register values as the host reads them,
addresses, and the timer's durations. -/

namespace Sys2Proof.Machine

/-! ## Host registers -/

/-- A quantity of `cfg` in a register of a given width; bits above the width read 0 (30_encoding.md R62). -/
def regValue (width n : Nat) : Word := (BitVec.ofNat width n).setWidth 32

/-- Three bits of `FLAGS`: `WIRING` bit 0, `BITREV` bit 1, `REGIME` bit 2 (30_encoding.md R67). -/
def Cfg.flags (c : Cfg) : BitVec 3 :=
  BitVec.ofBool c.regime.bit ++ BitVec.ofBool c.bitrev ++ BitVec.ofBool c.wiring.bit

/-- The `SCAN` register (30_encoding.md R66). -/
def State.scanWord (s : State) : Word :=
  s.line.setWidth 32 ||| s.bit.setWidth 32 <<< 4 ||| (BitVec.ofBool s.rdBank).setWidth 32 <<< 8 |||
    s.scan.setWidth 32 <<< 12 ||| s.phase.code.setWidth 32 <<< 16 ||| s.shPhase.code.setWidth 32 <<< 24 |||
    s.xferLine.setWidth 32 <<< 28

/-- The value a read of a host register returns (40_host_commands.md R81). -/
def State.readReg (s : State) : HostReg → Word
  | .ctrl => 0
  | .status => s.status
  | .irqEn => s.irqEn.word
  | .port => s.port.word.setWidth 32
  | .scan => s.scanWord
  | .brightness => s.brightness.setWidth 32
  | .xres => s.stg.xres.setWidth 32
  | .yres => s.stg.yres.setWidth 32
  | .bpp => s.stg.bpp.setWidth 32
  | .refresh => s.stg.refresh.setWidth 32
  | .panelW => s.stg.panelW.setWidth 32
  | .panelH => s.stg.panelH.setWidth 32
  | .nLines => s.stg.nLines.setWidth 32
  | .nBits => s.stg.nBits.setWidth 32
  | .flags => s.stg.flags.setWidth 32
  | .bcmUnit => s.stg.bcmUnit
  | .dimTicks => s.stg.dimTicks
  | .latchHold => s.stg.latchHold.setWidth 32
  | .stopTimeout => s.stg.stopTimeout
  | .aXres => regValue 32 s.cfg.xres
  | .aYres => regValue 32 s.cfg.yres
  | .aBpp => regValue 8 s.cfg.bpp.bpp
  | .aRefresh => regValue 16 s.cfg.refresh
  | .aPanelW => regValue 16 s.cfg.panelW
  | .aPanelH => regValue 16 s.cfg.panelH
  | .aNLines => regValue 8 s.cfg.nLines
  | .aNBits => regValue 8 s.cfg.nBits
  | .aFlags => s.cfg.flags.setWidth 32
  | .aBcmUnit => regValue 32 s.cfg.bcmUnit
  | .aDimTicks => regValue 32 s.cfg.dimTicks
  | .aLatchHold => regValue 16 s.cfg.latchHold
  | .aStopTimeout => regValue 32 s.cfg.stopTimeout
  | .nPanels => regValue 32 s.cfg.nPanels
  | .rowLen => regValue 32 s.cfg.rowLen
  | .linePeriod => regValue 32 s.cfg.linePeriod
  | .fbBytes => regValue 32 s.cfg.fbBytes
  | .bpbBytes => regValue 32 s.cfg.bpbBytes
  | .cols => regValue 32 s.cfg.cols
  | .rows => regValue 32 s.cfg.rows
  | .minPeriod => regValue 32 s.cfg.minPeriod

/-! ## Addresses -/

/-- The byte offset in `FB` of an address of the FB window (30_encoding.md R78(c), 20_memory.md R43). -/
def fbOffset (addr : Word) : Nat := addr.toNat - 0x10000

/-- `bpb_off(l, k, i)` (20_memory.md R44). -/
def bpbOff (c : Cfg) (l k i : Nat) : Nat := (l * c.nBits + k) * c.rowLen + i

/-! ## Selectors -/

/-- The selector of the `LIDLE` format: `stop_req` bit 3, `ev_done` bit 2, `ev_on` bit 1, `ev_line` bit 0
(30_encoding.md R60, R68). -/
def State.lidleWord (s : State) : BitVec 4 :=
  BitVec.ofBool s.stopReq ++ BitVec.ofBool s.evDone ++ BitVec.ofBool s.tOn.ev ++ BitVec.ofBool s.tLine.ev

/-! ## Timer durations -/

/-- `TCS(k)`, the TimerCompareSet (46_timer.md R176). -/
def Cfg.tcs (c : Cfg) (k : Nat) : Nat := if k < c.nBits then c.bcmUnit * 2 ^ k else c.dimTicks

/-- `ON_TIME` (45_vsync_controller.md R159; 30_encoding.md R78(f)). -/
def State.onTime (s : State) : Nat := s.cfg.linePeriod * s.brightness.toNat / 255

/-- A duration below `2^32` as `START_TIMER` takes it (30_encoding.md R78(f)). -/
def duration (d : Nat) : Word := BitVec.ofNat 32 d

end Sys2Proof.Machine
end

