-- ==== Sys2Proof/Machine/LineMux.lean ====
section
/-! DEFINITION. The line multiplexer (43_line_mux.md). -/

namespace Sys2Proof.Machine

/-- `LINE_TABLE[n]`: the 3-bit address-select pattern of line `n` (10_state.md R25, 43_line_mux.md R120). -/
def lineTable (n : Index3) : Index3 :=
  match n.toNat with
  | 0 => 0b000
  | 1 => 0b001
  | 2 => 0b010
  | 3 => 0b011
  | 4 => 0b100
  | 5 => 0b101
  | 6 => 0b110
  | _ => 0b111

/-- `LINE_SELECT(n)` (43_line_mux.md R120): `ADDR` written, no other port field. -/
def effLineSelect (n : Index3) : Effect := { addr := some (lineTable n) }

/-- `LINE_SELECT` by itself. -/
def execLineSelect (n : Index3) (s : State) : Host.Outcome State Fault Refusal := solo (.ok (effLineSelect n)) s

end Sys2Proof.Machine
end

