-- ==== Sys2Proof/Machine/Shifter.lean ====
section
/-! DEFINITION. The scanline shifter (42_shifter.md). -/

namespace Sys2Proof.Machine

/-- `SH_START(bank, line, plane)` (42_shifter.md R111). -/
def effShStart (bank : Bool) (line plane : Index3) : Effect := { shStart := some (bank, line, plane) }

/-- `SH_START` by itself. -/
def execShStart (bank : Bool) (line plane : Index3) (s : State) : Host.Outcome State Fault Refusal :=
  solo (.ok (effShStart bank line plane)) s

/-- `SH_ABORT` (42_shifter.md R116): the shifter idle, `DATA` and `CLK` 0. The controller writes all five fields of
the port (10_state.md R19, which gives no values); `LAT`, `OE_N` and `ADDR`, which R116 does not assign, are written
with the values they hold (00_scope.md R10; DEDUCED, log 27). -/
def effShAbort (s : State) : Effect :=
  { shAbort := true, data := some 0, clk := some false, lat := some s.port.lat, oeN := some s.port.oeN,
    addr := some s.port.addr }

/-- `SH_ABORT` by itself. -/
def execShAbort (s : State) : Host.Outcome State Fault Refusal := solo (.ok (effShAbort s)) s

/-- `SH_IDLE` (42_shifter.md R110): nothing. -/
def effShIdle : Effect := {}

/-- `SH_IDLE` by itself. -/
def execShIdle (s : State) : Host.Outcome State Fault Refusal := solo (.ok effShIdle) s

/-- The offset in bank `sh_bank` of the byte being shifted (42_shifter.md R112). -/
def State.shOff (s : State) : Nat := bpbOff s.cfg s.shLine.toNat s.shPlane.toNat s.shIdx.toNat

/-- What `SH_DATA` puts on the data wires: the byte in RGB format, one bit on `DATA[0]` in mono format
(42_shifter.md R112). -/
def wireData (c : Cfg) (byte : Byte) (bit : Index3) : Byte :=
  match c.bpp with
  | .rgb => byte
  | .mono => (BitVec.ofBool (byte.getLsbD bit.toNat)).setWidth 8

/-- `SH_DATA` (42_shifter.md R112): "set data bits". -/
def effShData (s : State) : Except Fault Effect :=
  if s.shOff < s.params.bpbCap then
    .ok { shData := some (wireData s.cfg ((s.bank s.shBank).read s.shOff) s.shBit), shPhase := some .clkhi }
  else .error .bpbNoSuchByte

/-- `SH_DATA` by itself. -/
def execShData (s : State) : Host.Outcome State Fault Refusal := solo (effShData s) s

/-- `SH_CLKHI` (42_shifter.md R113). -/
def effShClkhi : Effect := { shClk := some true, shPhase := some .clklo }

/-- `SH_CLKHI` by itself. -/
def execShClkhi (s : State) : Host.Outcome State Fault Refusal := solo (.ok effShClkhi) s

/-- `SH_CLKLO` (42_shifter.md R114): the clock low, then the next bit, the next byte or the end of the row. -/
def effShClklo (s : State) : Effect :=
  if s.cfg.bpp = .mono ∧ 0 < s.shBit.toNat then
    { shClk := some false, shBit := some (s.shBit - 1), shPhase := some .data }
  else if s.shIdx.toNat + 1 < s.cfg.rowLen then
    { shClk := some false, shBit := some 7, shIdx := some (s.shIdx + 1), shPhase := some .data }
  else { shClk := some false, shBit := some 7, shPhase := some .exit }

/-- `SH_CLKLO` by itself. -/
def execShClklo (s : State) : Host.Outcome State Fault Refusal := solo (.ok (effShClklo s)) s

/-- `SH_EXIT` (42_shifter.md R115). -/
def effShExit : Effect := { shData := some 0, shClk := some false, shPhase := some .idle, doneSet := true }

/-- `SH_EXIT` by itself. -/
def execShExit (s : State) : Host.Outcome State Fault Refusal := solo (.ok effShExit) s

/-- `SH_STALL` (42_shifter.md R117): the shifter executes nothing. Its condition is tested where the tick
selects the shifter's operation. -/
def effShStall : Effect := {}

/-- `SH_STALL` by itself. -/
def execShStall (s : State) : Host.Outcome State Fault Refusal := solo (.ok effShStall) s

end Sys2Proof.Machine
end

