-- ==== Sys2Proof/Machine/Timer.lean ====
section
/-! DEFINITION. The timer block (46_timer.md). -/

namespace Sys2Proof.Machine

/-- `TMR_COUNT` (46_timer.md R170). -/
def effTmrCount (s : State) : Effect := { cnt := some (s.cnt + 1) }

/-- `TMR_COUNT` by itself. -/
def execTmrCount (s : State) : Host.Outcome State Fault Refusal := solo (.ok (effTmrCount s)) s

/-- The compare condition of a channel (46_timer.md R171, R172). -/
def chanMatches (cnt : Word) (c : Channel) : Bool := c.arm && decide (cnt + 1 = c.cmp)

/-- A one-shot match sets the event and disarms (46_timer.md R171). -/
def oneshotReq (cnt : Word) (c : Channel) : ChanReq :=
  match chanMatches cnt c with
  | true => { hit := some (c.cmp, false) }
  | false => {}

/-- `TMR_MATCH_ONESHOT(ch)` (46_timer.md R171). -/
def effTmrMatchOneshot (ch : OneShot) (s : State) : Effect :=
  match ch with
  | .bcm => { tBcm := oneshotReq s.cnt s.tBcm }
  | .on => { tOn := oneshotReq s.cnt s.tOn }

/-- `TMR_MATCH_ONESHOT` by itself. -/
def execTmrMatchOneshot (ch : OneShot) (s : State) : Host.Outcome State Fault Refusal :=
  solo (.ok (effTmrMatchOneshot ch s)) s

/-- `TMR_MATCH_PERIODIC` (46_timer.md R172): the event set, the compare value reloaded, still armed. -/
def effTmrMatchPeriodic (s : State) : Effect :=
  match chanMatches s.cnt s.tLine with
  | true => { tLine := { hit := some (s.tLine.cmp + duration s.cfg.linePeriod, true) } }
  | false => {}

/-- `TMR_MATCH_PERIODIC` by itself. -/
def execTmrMatchPeriodic (s : State) : Host.Outcome State Fault Refusal := solo (.ok (effTmrMatchPeriodic s)) s

/-- `START_TIMER(ch, d)` (46_timer.md R173). -/
def effStartTimer (ch : Chan) (d : Word) : Effect := Effect.onChan ch { start := some d }

/-- `START_TIMER` by itself. -/
def execStartTimer (ch : Chan) (d : Word) (s : State) : Host.Outcome State Fault Refusal :=
  solo (.ok (effStartTimer ch d)) s

/-- `DISARM(ch)` (46_timer.md R174). -/
def effDisarm (ch : Chan) : Effect := Effect.onChan ch { disarm := true }

/-- `DISARM` by itself. -/
def execDisarm (ch : Chan) (s : State) : Host.Outcome State Fault Refusal := solo (.ok (effDisarm ch)) s

end Sys2Proof.Machine
end

