-- ==== Sys2Proof/Machine/Bcm.lean ====
section
/-! DEFINITION. The BCM timing state machine: the controller's phases in the BCM regime (44_bcm_sequencer.md). -/

namespace Sys2Proof.Machine

/-- `IDLE` (44_bcm_sequencer.md R130): nothing. -/
def effIdle : Effect := {}

/-- `IDLE` by itself. -/
def execIdle (s : State) : Host.Outcome State Fault Refusal := solo (.ok effIdle) s

/-- `WAIT_BIT` (44_bcm_sequencer.md R131). -/
def effWaitBit (s : State) : Effect :=
  match s.tBcm.ev with
  | true => { phase := some .blank }
  | false => { phase := some .waitBit }

/-- `WAIT_BIT` by itself. -/
def execWaitBit (s : State) : Host.Outcome State Fault Refusal := solo (.ok (effWaitBit s)) s

/-- `BLANK` (44_bcm_sequencer.md R132). -/
def effBlank : Effect := { oeN := some true, phase := some .shiftGo }

/-- `BLANK` by itself. -/
def execBlank (s : State) : Host.Outcome State Fault Refusal := solo (.ok effBlank) s

/-- `SHIFT_GO` (44_bcm_sequencer.md R133). -/
def effShiftGo (s : State) : Effect :=
  (effShStart s.rdBank s.line s.bit).join { phase := some .shiftWait }

/-- `SHIFT_GO` by itself. -/
def execShiftGo (s : State) : Host.Outcome State Fault Refusal := solo (.ok (effShiftGo s)) s

/-- `SHIFT_WAIT` (44_bcm_sequencer.md R134). -/
def effShiftWait (s : State) : Effect :=
  match s.evDone with
  | true => { doneClear := true, phase := some .latOn }
  | false => { phase := some .shiftWait }

/-- `SHIFT_WAIT` by itself. -/
def execShiftWait (s : State) : Host.Outcome State Fault Refusal := solo (.ok (effShiftWait s)) s

/-- `LAT_ON` (44_bcm_sequencer.md R135). -/
def effLatOn (s : State) : Effect :=
  { lat := some true, dly := some (BitVec.ofNat 16 s.cfg.latchHold), phase := some .latHold }

/-- `LAT_ON` by itself. -/
def execLatOn (s : State) : Host.Outcome State Fault Refusal := solo (.ok (effLatOn s)) s

/-- `LAT_HOLD` (44_bcm_sequencer.md R136). -/
def effLatHold (s : State) : Effect :=
  if s.dly = 0 then { phase := some .latOff }
  else { dly := some (s.dly - 1), phase := some .latHold }

/-- `LAT_HOLD` by itself. -/
def execLatHold (s : State) : Host.Outcome State Fault Refusal := solo (.ok (effLatHold s)) s

/-- `LAT_OFF` (44_bcm_sequencer.md R137). -/
def effLatOff : Effect := { lat := some false, phase := some .setLine }

/-- `LAT_OFF` by itself. -/
def execLatOff (s : State) : Host.Outcome State Fault Refusal := solo (.ok effLatOff) s

/-- `SET_LINE` (44_bcm_sequencer.md R138). -/
def effSetLine (s : State) : Effect := (effLineSelect s.line).join { phase := some .startDim }

/-- `SET_LINE` by itself. -/
def execSetLine (s : State) : Host.Outcome State Fault Refusal := solo (.ok (effSetLine s)) s

/-- `START_DIM` (44_bcm_sequencer.md R139). -/
def effStartDim (s : State) : Effect :=
  (effStartTimer .bcm (duration (s.cfg.tcs s.cfg.nBits))).join { phase := some .waitDim }

/-- `START_DIM` by itself. -/
def execStartDim (s : State) : Host.Outcome State Fault Refusal := solo (.ok (effStartDim s)) s

/-- `WAIT_DIM` (44_bcm_sequencer.md R140). -/
def effWaitDim (s : State) : Effect :=
  match s.tBcm.ev with
  | true => { phase := some .startBit }
  | false => { phase := some .waitDim }

/-- `WAIT_DIM` by itself. -/
def execWaitDim (s : State) : Host.Outcome State Fault Refusal := solo (.ok (effWaitDim s)) s

/-- `START_BIT` (44_bcm_sequencer.md R141). -/
def effStartBit (s : State) : Effect :=
  (effStartTimer .bcm (duration (s.cfg.tcs s.bit.toNat))).join { phase := some .unblank }

/-- `START_BIT` by itself. -/
def execStartBit (s : State) : Host.Outcome State Fault Refusal := solo (.ok (effStartBit s)) s

/-- `UNBLANK` (44_bcm_sequencer.md R142). -/
def effUnblank : Effect := { oeN := some false, phase := some .advance }

/-- `UNBLANK` by itself. -/
def execUnblank (s : State) : Host.Outcome State Fault Refusal := solo (.ok effUnblank) s

/-- `ADVANCE` (44_bcm_sequencer.md R143). -/
def effAdvance (s : State) : Effect :=
  if s.bit.toNat + 1 < s.cfg.nBits then { bit := some (s.bit + 1), phase := some .waitBit }
  else if s.line.toNat + 1 < s.cfg.nLines then
    { bit := some 0, line := some (s.line + 1), phase := some .waitBit }
  else { bit := some 0, line := some 0, phase := some .vsync }

/-- `ADVANCE` by itself. -/
def execAdvance (s : State) : Host.Outcome State Fault Refusal := solo (.ok (effAdvance s)) s

end Sys2Proof.Machine
end

