-- ==== Sys2Proof/Machine/HostOps.lean ====
section
/-! DEFINITION. The host operations (40_host_commands.md). -/

namespace Sys2Proof.Machine

/-! ## Commands -/

/-- `START` (40_host_commands.md R87). -/
def effStart (s : State) : Effect :=
  if s.phase = .idle then { phase := some .prime, line := some 0, bit := some 0, scan := some 0 }
  else Effect.raise .errCmd

/-- `START` by itself. -/
def execStart (s : State) : Host.Outcome State Fault Refusal :=
  solo (.ok (effStart s)) s

/-- `STOP` (40_host_commands.md R88, R94). -/
def effStop (s : State) : Effect :=
  if s.phase = .idle then {}
  else if s.cfg.regime = .line ∧ s.busy = false then { stopReq := some true }
  else Effect.raise .errCmd

/-- `STOP` by itself. -/
def execStop (s : State) : Host.Outcome State Fault Refusal :=
  solo (.ok (effStop s)) s

/-- `MODESET` (40_host_commands.md R90). -/
def effModeset (s : State) : Effect :=
  if s.phase ≠ .idle then Effect.raise .errCmd
  else if (validate s.params s.stg).fits s.params then { cfg := some (validate s.params s.stg) }
  else Effect.raise .errNomem

/-- `MODESET` by itself. -/
def execModeset (s : State) : Host.Outcome State Fault Refusal :=
  solo (.ok (effModeset s)) s

/-- `CMD_RESERVED` (40_host_commands.md R91). -/
def effCmdReserved : Effect := Effect.raise .errCmd

/-- `CMD_RESERVED` by itself: every such code does the same. -/
def execCmdReserved (s : State) : Host.Outcome State Fault Refusal := solo (.ok effCmdReserved) s

/-! ## Plain writes -/

/-- `WR_STATUS` (40_host_commands.md R83): write-1-to-clear of the sticky flags. -/
def effWrStatus (value : Word) : Effect := { cleared := StatusBits.ofWord value }

/-- `WR_STATUS` by itself. -/
def execWrStatus (value : Word) (s : State) : Host.Outcome State Fault Refusal :=
  solo (.ok (effWrStatus value)) s

/-- `WR_IRQ_EN` (40_host_commands.md R84). -/
def effWrIrqEn (value : Word) : Effect := { irqEn := some (StatusBits.ofWord value) }

/-- `WR_IRQ_EN` by itself. -/
def execWrIrqEn (value : Word) (s : State) : Host.Outcome State Fault Refusal :=
  solo (.ok (effWrIrqEn value)) s

/-- `WR_BRIGHTNESS` (40_host_commands.md R85). -/
def effWrBrightness (value : Word) : Effect := { brightness := some (value.setWidth 8) }

/-- `WR_BRIGHTNESS` by itself. -/
def execWrBrightness (value : Word) (s : State) : Host.Outcome State Fault Refusal :=
  solo (.ok (effWrBrightness value)) s

/-- `WR_XRES` (40_host_commands.md R89): the low 16 bits staged. -/
def effWrXres (value : Word) (s : State) : Effect := { stg := some { s.stg with xres := value.setWidth 16 } }

/-- `WR_XRES` by itself. -/
def execWrXres (value : Word) (s : State) : Host.Outcome State Fault Refusal :=
  solo (.ok (effWrXres value s)) s

/-- `WR_YRES` (40_host_commands.md R89): the low 16 bits staged. -/
def effWrYres (value : Word) (s : State) : Effect := { stg := some { s.stg with yres := value.setWidth 16 } }

/-- `WR_YRES` by itself. -/
def execWrYres (value : Word) (s : State) : Host.Outcome State Fault Refusal :=
  solo (.ok (effWrYres value s)) s

/-- `WR_BPP` (40_host_commands.md R89): the low 8 bits staged. -/
def effWrBpp (value : Word) (s : State) : Effect := { stg := some { s.stg with bpp := value.setWidth 8 } }

/-- `WR_BPP` by itself. -/
def execWrBpp (value : Word) (s : State) : Host.Outcome State Fault Refusal :=
  solo (.ok (effWrBpp value s)) s

/-- `WR_REFRESH` (40_host_commands.md R89): the low 16 bits staged. -/
def effWrRefresh (value : Word) (s : State) : Effect := { stg := some { s.stg with refresh := value.setWidth 16 } }

/-- `WR_REFRESH` by itself. -/
def execWrRefresh (value : Word) (s : State) : Host.Outcome State Fault Refusal :=
  solo (.ok (effWrRefresh value s)) s

/-- `WR_PANEL_W` (40_host_commands.md R89): the low 16 bits staged. -/
def effWrPanelW (value : Word) (s : State) : Effect := { stg := some { s.stg with panelW := value.setWidth 16 } }

/-- `WR_PANEL_W` by itself. -/
def execWrPanelW (value : Word) (s : State) : Host.Outcome State Fault Refusal :=
  solo (.ok (effWrPanelW value s)) s

/-- `WR_PANEL_H` (40_host_commands.md R89): the low 16 bits staged. -/
def effWrPanelH (value : Word) (s : State) : Effect := { stg := some { s.stg with panelH := value.setWidth 16 } }

/-- `WR_PANEL_H` by itself. -/
def execWrPanelH (value : Word) (s : State) : Host.Outcome State Fault Refusal :=
  solo (.ok (effWrPanelH value s)) s

/-- `WR_N_LINES` (40_host_commands.md R89): the low 8 bits staged. -/
def effWrNLines (value : Word) (s : State) : Effect := { stg := some { s.stg with nLines := value.setWidth 8 } }

/-- `WR_N_LINES` by itself. -/
def execWrNLines (value : Word) (s : State) : Host.Outcome State Fault Refusal :=
  solo (.ok (effWrNLines value s)) s

/-- `WR_N_BITS` (40_host_commands.md R89): the low 8 bits staged. -/
def effWrNBits (value : Word) (s : State) : Effect := { stg := some { s.stg with nBits := value.setWidth 8 } }

/-- `WR_N_BITS` by itself. -/
def execWrNBits (value : Word) (s : State) : Host.Outcome State Fault Refusal :=
  solo (.ok (effWrNBits value s)) s

/-- `WR_FLAGS` (40_host_commands.md R89): the low 3 bits staged. -/
def effWrFlags (value : Word) (s : State) : Effect := { stg := some { s.stg with flags := value.setWidth 3 } }

/-- `WR_FLAGS` by itself. -/
def execWrFlags (value : Word) (s : State) : Host.Outcome State Fault Refusal :=
  solo (.ok (effWrFlags value s)) s

/-- `WR_BCM_UNIT` (40_host_commands.md R89): the low 32 bits staged. -/
def effWrBcmUnit (value : Word) (s : State) : Effect := { stg := some { s.stg with bcmUnit := value } }

/-- `WR_BCM_UNIT` by itself. -/
def execWrBcmUnit (value : Word) (s : State) : Host.Outcome State Fault Refusal :=
  solo (.ok (effWrBcmUnit value s)) s

/-- `WR_DIM_TICKS` (40_host_commands.md R89): the low 32 bits staged. -/
def effWrDimTicks (value : Word) (s : State) : Effect := { stg := some { s.stg with dimTicks := value } }

/-- `WR_DIM_TICKS` by itself. -/
def execWrDimTicks (value : Word) (s : State) : Host.Outcome State Fault Refusal :=
  solo (.ok (effWrDimTicks value s)) s

/-- `WR_LATCH_HOLD` (40_host_commands.md R89): the low 16 bits staged. -/
def effWrLatchHold (value : Word) (s : State) : Effect := { stg := some { s.stg with latchHold := value.setWidth 16 } }

/-- `WR_LATCH_HOLD` by itself. -/
def execWrLatchHold (value : Word) (s : State) : Host.Outcome State Fault Refusal :=
  solo (.ok (effWrLatchHold value s)) s

/-- `WR_STOP_TIMEOUT` (40_host_commands.md R89): the low 32 bits staged. -/
def effWrStopTimeout (value : Word) (s : State) : Effect := { stg := some { s.stg with stopTimeout := value } }

/-- `WR_STOP_TIMEOUT` by itself. -/
def execWrStopTimeout (value : Word) (s : State) : Host.Outcome State Fault Refusal :=
  solo (.ok (effWrStopTimeout value s)) s

/-! ## The framebuffer and the rest of host space -/

/-- `FB_WR` (40_host_commands.md R86): `value[7:0]` stored; outside the window a write is ignored (20_memory.md R42). -/
def effFbWr (addr value : Word) (s : State) : Effect :=
  match inFbWindow s.params addr with
  | true => { fb := some (s.fb.write (fbOffset addr) (value.setWidth 8)) }
  | false => {}

/-- `FB_WR` by itself. -/
def execFbWr (addr value : Word) (s : State) : Host.Outcome State Fault Refusal :=
  solo (.ok (effFbWr addr value s)) s

/-- `WR_IGNORED` (40_host_commands.md R93): nothing. -/
def effWrIgnored : Effect := {}

/-- `WR_IGNORED` by itself, whatever the address and value. -/
def execWrIgnored (s : State) : Host.Outcome State Fault Refusal := solo (.ok effWrIgnored) s

/-- `RD_REG` (40_host_commands.md R81). -/
def effRdReg (reg : HostReg) (s : State) : Effect := { rdData := some (s.readReg reg) }

/-- `RD_REG` by itself. -/
def execRdReg (reg : HostReg) (s : State) : Host.Outcome State Fault Refusal :=
  solo (.ok (effRdReg reg s)) s

/-- `FB_RD` (40_host_commands.md R92); outside the window a read returns 0 (20_memory.md R42). -/
def effFbRd (addr : Word) (s : State) : Effect :=
  match inFbWindow s.params addr with
  | true => { rdData := some ((s.fb.read (fbOffset addr)).setWidth 32) }
  | false => { rdData := some 0 }

/-- `FB_RD` by itself. -/
def execFbRd (addr : Word) (s : State) : Host.Outcome State Fault Refusal :=
  solo (.ok (effFbRd addr s)) s

/-- `RD_UNMAPPED` (40_host_commands.md R82). -/
def effRdUnmapped : Effect := { rdData := some 0 }

/-- `RD_UNMAPPED` by itself, whatever the address. -/
def execRdUnmapped (s : State) : Host.Outcome State Fault Refusal := solo (.ok effRdUnmapped) s

end Sys2Proof.Machine
end

