-- ==== Sys2Proof/Machine/Reset.lean ====
section
/-! DEFINITION. The operation `RESET` (70_reset_and_hazards.md R200). -/

namespace Sys2Proof.Machine

/-- Every piece of state at its reset value (70_reset_and_hazards.md R200, 10_state.md R27). What R27 leaves
unspecified after a reset (`cnt`, the compare values, `FB` and both banks) is a free value drawn here (log 8);
the parameters and the environment's inputs to come are not the machine's state and stay. -/
def State.afterReset (s : State) : State :=
  { State.resetWith s.params with
    cnt := Config.freeWord s.draws
    tBcm := { cmp := Config.freeWord (s.draws + 1), arm := false, ev := false }
    tLine := { cmp := Config.freeWord (s.draws + 2), arm := false, ev := false }
    tOn := { cmp := Config.freeWord (s.draws + 3), arm := false, ev := false }
    fb := { fill := .free (s.draws + 4), cells := [] }
    bpb0 := { fill := .free (s.draws + 5), cells := [] }
    bpb1 := { fill := .free (s.draws + 6), cells := [] }
    inputs := s.inputs
    draws := s.draws + 7 }

/-- `RESET`: it dominates every other write of its tick (70_reset_and_hazards.md R200). -/
def execReset (s : State) : Host.Outcome State Fault Refusal := .next s.afterReset

end Sys2Proof.Machine
end

