-- ==== Sys2Proof/Machine/Packer.lean ====
section
/-! DEFINITION. The bit-plane packer, operation `PACK` (41_packer.md). -/

namespace Sys2Proof.Machine

/-- `panel_of(p) = (pc, pr)`: panel column and panel row of chain position `p` (41_packer.md R104). -/
def panelOf (c : Cfg) (p : Nat) : Nat × Nat :=
  match c.wiring with
  | .vertical => (p / c.rows, p % c.rows)
  | .horizontal => (p % c.cols, p / c.cols)

/-- The column of the display byte `i` of an RGB row holds (41_packer.md R102). -/
def rgbCol (c : Cfg) (i : Nat) : Nat := (panelOf c (i / c.panelW)).1 * c.panelW + i % c.panelW

/-- The display row of the upper half line `l` for byte `i` of an RGB row (41_packer.md R102). -/
def rgbRow (c : Cfg) (l i : Nat) : Nat := (panelOf c (i / c.panelW)).2 * c.panelH + l

/-- The offset in `FB` of channel `ch` of pixel `(x, y)` (30_encoding.md R71). -/
def pixelOff (c : Cfg) (x y ch : Nat) : Nat := 3 * (y * c.xres + x) + ch

/-- The source bit of plane `k` (30_encoding.md R78(g)). -/
def planeBit (c : Cfg) (k : Nat) : Nat := 8 - c.nBits + k

/-- Six wire bits as a byte: R1 G1 B1 in bits 0 to 2, R2 G2 B2 in bits 3 to 5, bits 7:6 zero
(30_encoding.md R63). -/
def wireByte (r1 g1 b1 r2 g2 b2 : Bool) : Byte :=
  (0 : BitVec 2) ++ BitVec.ofBool b2 ++ BitVec.ofBool g2 ++ BitVec.ofBool r2 ++ BitVec.ofBool b1 ++
    BitVec.ofBool g1 ++ BitVec.ofBool r1

/-- `image_rgb(l, k, i)` (41_packer.md R102). -/
def imageRgb (c : Cfg) (fb : Memory) (l k i : Nat) : Byte :=
  let x := rgbCol c i
  let y1 := rgbRow c l i
  let y2 := y1 + c.nLines
  let ch := fun y n => (fb.read (pixelOff c x y n)).getLsbD (planeBit c k)
  wireByte (ch y1 0) (ch y1 1) (ch y1 2) (ch y2 0) (ch y2 1) (ch y2 2)

/-- `REV8[b]`: the byte with its bits in reverse order (10_state.md R25). -/
def rev8 (b : Byte) : Byte := b.reverse

/-- The offset in `FB` of the byte `image_mono(l, 0, i)` copies (41_packer.md R103). -/
def monoOff (c : Cfg) (l i : Nat) : Nat :=
  let bpr := c.panelW / 8
  let groups := c.panelH / c.nLines
  let ppb := groups * bpr
  let p := i / ppb
  let r := i % ppb / bpr
  let cb := i % bpr
  let y := (panelOf c p).2 * c.panelH + r * c.nLines + l
  let xb := (panelOf c p).1 * bpr + cb
  y * (c.xres / 8) + xb

/-- `image_mono(l, k, i)` (41_packer.md R103). -/
def imageMono (c : Cfg) (fb : Memory) (l i : Nat) : Byte :=
  match c.bitrev with
  | true => rev8 (fb.read (monoOff c l i))
  | false => fb.read (monoOff c l i)

/-- `image(l, k, i)` (41_packer.md R100). -/
def image (c : Cfg) (fb : Memory) (l k i : Nat) : Byte :=
  match c.bpp with
  | .rgb => imageRgb c fb l k i
  | .mono => imageMono c fb l i

/-- The bytes `0 .. n-1` of row `(l, k)` written (41_packer.md R100, inner loop). -/
def packRow (c : Cfg) (fb : Memory) (l k : Nat) : Nat → Memory → Memory
  | 0, m => m
  | n + 1, m => (packRow c fb l k n m).write (bpbOff c l k n) (image c fb l k n)

/-- The planes `0 .. n-1` of line `l` written (41_packer.md R100, middle loop). -/
def packPlanes (c : Cfg) (fb : Memory) (l : Nat) : Nat → Memory → Memory
  | 0, m => m
  | n + 1, m => packRow c fb l n c.rowLen (packPlanes c fb l n m)

/-- The lines `0 .. n-1` written (41_packer.md R100, outer loop). -/
def packLines (c : Cfg) (fb : Memory) : Nat → Memory → Memory
  | 0, m => m
  | n + 1, m => packPlanes c fb n c.nBits (packLines c fb n m)

/-- The bank `old` rebuilt from `FB` (41_packer.md R100). -/
def packBank (c : Cfg) (fb old : Memory) : Memory := packLines c fb c.nLines old

/-- The offsets in `FB` that `image(l, k, i)` reads (41_packer.md R101). -/
def imageReads (c : Cfg) (l i : Nat) : List Nat :=
  match c.bpp with
  | .rgb =>
    let x := rgbCol c i
    let y1 := rgbRow c l i
    let y2 := y1 + c.nLines
    [pixelOff c x y1 0, pixelOff c x y1 1, pixelOff c x y1 2,
     pixelOff c x y2 0, pixelOff c x y2 1, pixelOff c x y2 2]
  | .mono => [monoOff c l i]

/-- Every byte of `FB` that `PACK` reads exists (log 14). -/
def packReadsExist (p : Params) (c : Cfg) : Bool :=
  (List.range c.nLines).all fun l => (List.range c.rowLen).all fun i =>
    (imageReads c l i).all fun a => decide (a < p.fbCap)

/-- Every byte of the bank that `PACK` writes exists (log 14). -/
def packWritesExist (p : Params) (c : Cfg) : Bool :=
  (List.range c.nLines).all fun l => (List.range c.nBits).all fun k => (List.range c.rowLen).all fun i =>
    decide (bpbOff c l k i < p.bpbCap)

/-- `PACK` (41_packer.md R100): bank `1 - rd_bank` rebuilt whole from the pre-tick `FB`, and the banks
swapped. -/
def effPack (s : State) : Except Fault Effect :=
  match packReadsExist s.params s.cfg, packWritesExist s.params s.cfg with
  | false, _ => .error .fbNoSuchByte
  | true, false => .error .bpbNoSuchByte
  | true, true =>
    .ok { bank := some (!s.rdBank, packBank s.cfg s.fb (s.bank (!s.rdBank))), rdBank := some (!s.rdBank) }

/-- `PACK` by itself. -/
def execPack (s : State) : Host.Outcome State Fault Refusal := solo (effPack s) s

end Sys2Proof.Machine
end

