-- ==== Sys2Proof/Machine/Vsync.lean ====
section
/-! DEFINITION. The double-buffered vsync and latch controller: the frame boundary, the LINE regime and the stop
sequence (45_vsync_controller.md). -/

namespace Sys2Proof.Machine

/-! ## The frame boundary -/

/-- `PRIME` (45_vsync_controller.md R151). -/
def effPrime (s : State) : Except Fault Effect :=
  match effPack s with
  | .error f => .error f
  | .ok pk =>
    .ok ((pk.join (Effect.raise .vsync)).join
      (match s.cfg.regime with
      | .bcm => (effStartTimer .bcm 0).join { phase := some .waitBit }
      | .line => (effStartTimer .line (duration s.cfg.linePeriod)).join { phase := some .lIdle }))

/-- `PRIME` by itself. -/
def execPrime (s : State) : Host.Outcome State Fault Refusal := solo (effPrime s) s

/-- `VSYNC` (45_vsync_controller.md R152). -/
def effVsync (s : State) : Except Fault Effect :=
  match effPack s with
  | .error f => .error f
  | .ok pk =>
    .ok ((pk.join (Effect.raise .vsync)).join
      (match s.cfg.regime with
      | .bcm => { phase := some .waitBit }
      | .line => { phase := some .lIdle }))

/-- `VSYNC` by itself. -/
def execVsync (s : State) : Host.Outcome State Fault Refusal := solo (effVsync s) s

/-! ## The handlers of `L_IDLE` -/

/-- `L_STOP_REQ` (45_vsync_controller.md R154). -/
def effLStopReq (s : State) : Effect :=
  ((effDisarm .line).join (effDisarm .on)).join
    { stopReq := some false, oeN := some true, stopCnt := some (BitVec.ofNat 32 s.cfg.stopTimeout),
      phase := some .lStopWait }

/-- `L_STOP_REQ` by itself. -/
def execLStopReq (s : State) : Host.Outcome State Fault Refusal := solo (.ok (effLStopReq s)) s

/-- `L_DONE` (45_vsync_controller.md R157). -/
def effLDone : Effect := { doneClear := true, phase := some .lBlank }

/-- `L_DONE` by itself. -/
def execLDone (s : State) : Host.Outcome State Fault Refusal := solo (.ok effLDone) s

/-- `ON_EXPIRE` (45_vsync_controller.md R155). -/
def effOnExpire : Effect :=
  { tOn := { clear := true }, oeN := some true, phase := some .lIdle }

/-- `ON_EXPIRE` by itself. -/
def execOnExpire (s : State) : Host.Outcome State Fault Refusal := solo (.ok effOnExpire) s

/-- `LINE_TICK` (45_vsync_controller.md R156): start the next transfer, or skip the period if the shifter is busy. -/
def effLineTick (s : State) : Effect :=
  match s.shPhase with
  | .idle =>
    let next := (s.scan.toNat + 1) % s.cfg.nLines
    (effShStart s.rdBank s.scan 0).join
      { tLine := { clear := true }, xferLine := some s.scan, scan := some (BitVec.ofNat 3 next),
        phase := some (if next = 0 then .vsync else .lIdle) }
  | _ => { tLine := { clear := true }, phase := some .lIdle }

/-- `LINE_TICK` by itself. -/
def execLineTick (s : State) : Host.Outcome State Fault Refusal := solo (.ok (effLineTick s)) s

/-- `L_NOP` (45_vsync_controller.md R153): it "writes no state". -/
def effLNop : Effect := {}

/-- `L_NOP` by itself. -/
def execLNop (s : State) : Host.Outcome State Fault Refusal := solo (.ok effLNop) s

/-! ## The phases of the LINE regime -/

/-- `L_IDLE` (45_vsync_controller.md R153): the handler its four flags select. -/
def effLIdle (s : State) : Effect :=
  match s.stopReq, s.evDone, s.tOn.ev, s.tLine.ev with
  | true, _, _, _ => effLStopReq s
  | false, true, _, _ => effLDone
  | false, false, true, _ => effOnExpire
  | false, false, false, true => effLineTick s
  | false, false, false, false => effLNop

/-- `L_IDLE` by itself. -/
def execLIdle (s : State) : Host.Outcome State Fault Refusal := solo (.ok (effLIdle s)) s

/-- `L_BLANK` (45_vsync_controller.md R158). -/
def effLBlank : Effect := { oeN := some true, phase := some .lLatOn }

/-- `L_BLANK` by itself. -/
def execLBlank (s : State) : Host.Outcome State Fault Refusal := solo (.ok effLBlank) s

/-- `L_LAT_ON` (45_vsync_controller.md R159). -/
def effLLatOn (s : State) : Effect :=
  (effStartTimer .on (duration s.onTime)).join
    { lat := some true, dly := some (BitVec.ofNat 16 s.cfg.latchHold), phase := some .lLatHold }

/-- `L_LAT_ON` by itself. -/
def execLLatOn (s : State) : Host.Outcome State Fault Refusal := solo (.ok (effLLatOn s)) s

/-- `L_LAT_HOLD` (45_vsync_controller.md R160). -/
def effLLatHold (s : State) : Effect :=
  if s.dly = 0 then { phase := some .lLatOff }
  else { dly := some (s.dly - 1), phase := some .lLatHold }

/-- `L_LAT_HOLD` by itself. -/
def execLLatHold (s : State) : Host.Outcome State Fault Refusal := solo (.ok (effLLatHold s)) s

/-- `L_LAT_OFF` (45_vsync_controller.md R161). -/
def effLLatOff : Effect := { lat := some false, phase := some .lSetLine }

/-- `L_LAT_OFF` by itself. -/
def execLLatOff (s : State) : Host.Outcome State Fault Refusal := solo (.ok effLLatOff) s

/-- `L_SET_LINE` (45_vsync_controller.md R162). -/
def effLSetLine (s : State) : Effect := (effLineSelect s.xferLine).join { phase := some .lUnblank }

/-- `L_SET_LINE` by itself. -/
def execLSetLine (s : State) : Host.Outcome State Fault Refusal := solo (.ok (effLSetLine s)) s

/-- `L_UNBLANK` (45_vsync_controller.md R163). -/
def effLUnblank (s : State) : Effect :=
  match s.tOn.ev with
  | true => { tOn := { clear := true }, phase := some .lIdle }
  | false => { oeN := some false, phase := some .lIdle }

/-- `L_UNBLANK` by itself. -/
def execLUnblank (s : State) : Host.Outcome State Fault Refusal := solo (.ok (effLUnblank s)) s

/-- `L_STOP_WAIT` (45_vsync_controller.md R164). -/
def effLStopWait (s : State) : Effect :=
  match s.shPhase with
  | .idle => { phase := some .lStopSafe }
  | _ =>
    if s.stopCnt = 0 then
      ((effShAbort s).join (Effect.raise .stopTimeout)).join { phase := some .lStopSafe }
    else { stopCnt := some (s.stopCnt - 1), phase := some .lStopWait }

/-- `L_STOP_WAIT` by itself. -/
def execLStopWait (s : State) : Host.Outcome State Fault Refusal := solo (.ok (effLStopWait s)) s

/-- `L_STOP_SAFE` (45_vsync_controller.md R165). -/
def effLStopSafe : Effect :=
  Effect.portSafe.join { doneClear := true, phase := some .idle }

/-- `L_STOP_SAFE` by itself. -/
def execLStopSafe (s : State) : Host.Outcome State Fault Refusal := solo (.ok effLStopSafe) s

end Sys2Proof.Machine
end

