-- ==== Sys2Proof/Machine/Dispatch.lean ====
section
/-! DEFINITION. One operation by itself: one arm for each row of spec/opcode_table.json. -/

namespace Sys2Proof.Machine

def exec (i : Instr) (s : State) : Host.Outcome State Fault Refusal :=
  match i with
  | .start => Sys2Proof.Machine.execStart s
  | .stop => Sys2Proof.Machine.execStop s
  | .modeset => Sys2Proof.Machine.execModeset s
  | .cmdReserved _ => Sys2Proof.Machine.execCmdReserved s
  | .wrStatus value => Sys2Proof.Machine.execWrStatus value s
  | .wrIrqEn value => Sys2Proof.Machine.execWrIrqEn value s
  | .wrBrightness value => Sys2Proof.Machine.execWrBrightness value s
  | .wrXres value => Sys2Proof.Machine.execWrXres value s
  | .wrYres value => Sys2Proof.Machine.execWrYres value s
  | .wrBpp value => Sys2Proof.Machine.execWrBpp value s
  | .wrRefresh value => Sys2Proof.Machine.execWrRefresh value s
  | .wrPanelW value => Sys2Proof.Machine.execWrPanelW value s
  | .wrPanelH value => Sys2Proof.Machine.execWrPanelH value s
  | .wrNLines value => Sys2Proof.Machine.execWrNLines value s
  | .wrNBits value => Sys2Proof.Machine.execWrNBits value s
  | .wrFlags value => Sys2Proof.Machine.execWrFlags value s
  | .wrBcmUnit value => Sys2Proof.Machine.execWrBcmUnit value s
  | .wrDimTicks value => Sys2Proof.Machine.execWrDimTicks value s
  | .wrLatchHold value => Sys2Proof.Machine.execWrLatchHold value s
  | .wrStopTimeout value => Sys2Proof.Machine.execWrStopTimeout value s
  | .fbWr addr value => Sys2Proof.Machine.execFbWr addr value s
  | .wrIgnored _ _ => Sys2Proof.Machine.execWrIgnored s
  | .rdReg reg => Sys2Proof.Machine.execRdReg reg s
  | .fbRd addr => Sys2Proof.Machine.execFbRd addr s
  | .rdUnmapped _ => Sys2Proof.Machine.execRdUnmapped s
  | .idle => Sys2Proof.Machine.execIdle s
  | .waitBit => Sys2Proof.Machine.execWaitBit s
  | .blank => Sys2Proof.Machine.execBlank s
  | .shiftGo => Sys2Proof.Machine.execShiftGo s
  | .shiftWait => Sys2Proof.Machine.execShiftWait s
  | .latOn => Sys2Proof.Machine.execLatOn s
  | .latHold => Sys2Proof.Machine.execLatHold s
  | .latOff => Sys2Proof.Machine.execLatOff s
  | .setLine => Sys2Proof.Machine.execSetLine s
  | .startDim => Sys2Proof.Machine.execStartDim s
  | .waitDim => Sys2Proof.Machine.execWaitDim s
  | .startBit => Sys2Proof.Machine.execStartBit s
  | .unblank => Sys2Proof.Machine.execUnblank s
  | .advance => Sys2Proof.Machine.execAdvance s
  | .vsync => Sys2Proof.Machine.execVsync s
  | .prime => Sys2Proof.Machine.execPrime s
  | .lIdle => Sys2Proof.Machine.execLIdle s
  | .lBlank => Sys2Proof.Machine.execLBlank s
  | .lLatOn => Sys2Proof.Machine.execLLatOn s
  | .lLatHold => Sys2Proof.Machine.execLLatHold s
  | .lLatOff => Sys2Proof.Machine.execLLatOff s
  | .lSetLine => Sys2Proof.Machine.execLSetLine s
  | .lUnblank => Sys2Proof.Machine.execLUnblank s
  | .lStopWait => Sys2Proof.Machine.execLStopWait s
  | .lStopSafe => Sys2Proof.Machine.execLStopSafe s
  | .lStopReq => Sys2Proof.Machine.execLStopReq s
  | .lDone => Sys2Proof.Machine.execLDone s
  | .onExpire => Sys2Proof.Machine.execOnExpire s
  | .lineTick => Sys2Proof.Machine.execLineTick s
  | .lNop => Sys2Proof.Machine.execLNop s
  | .shIdle => Sys2Proof.Machine.execShIdle s
  | .shData => Sys2Proof.Machine.execShData s
  | .shClkhi => Sys2Proof.Machine.execShClkhi s
  | .shClklo => Sys2Proof.Machine.execShClklo s
  | .shExit => Sys2Proof.Machine.execShExit s
  | .pack => Sys2Proof.Machine.execPack s
  | .lineSelect n => Sys2Proof.Machine.execLineSelect n s
  | .startTimer ch d => Sys2Proof.Machine.execStartTimer ch d s
  | .disarm ch => Sys2Proof.Machine.execDisarm ch s
  | .shStart bank line plane => Sys2Proof.Machine.execShStart bank line plane s
  | .shAbort => Sys2Proof.Machine.execShAbort s
  | .tmrCount => Sys2Proof.Machine.execTmrCount s
  | .tmrMatchOneshot ch => Sys2Proof.Machine.execTmrMatchOneshot ch s
  | .tmrMatchPeriodic => Sys2Proof.Machine.execTmrMatchPeriodic s
  | .shStall => Sys2Proof.Machine.execShStall s
  | .reset => Sys2Proof.Machine.execReset s

end Sys2Proof.Machine
end

