-- ==== Sys2Proof/Machine/Tick.lean ====
section
/-! DEFINITION. One tick that is not a reset tick (00_scope.md R6, R9): every agent's operation is fetched
and decoded from the pre-tick state, their writes are gathered, and all commit together. -/

namespace Sys2Proof.Machine

/-- What an operation writes, computed on the pre-tick state. `RESET` is not among a tick's operations: in a
reset tick nothing else acts (70_reset_and_hazards.md R200). -/
def effectOf : Instr → State → Except Fault Effect
  | .start, s => .ok (effStart s)
  | .stop, s => .ok (effStop s)
  | .modeset, s => .ok (effModeset s)
  | .cmdReserved _, _ => .ok effCmdReserved
  | .wrStatus value, _ => .ok (effWrStatus value)
  | .wrIrqEn value, _ => .ok (effWrIrqEn value)
  | .wrBrightness value, _ => .ok (effWrBrightness value)
  | .wrXres value, s => .ok (effWrXres value s)
  | .wrYres value, s => .ok (effWrYres value s)
  | .wrBpp value, s => .ok (effWrBpp value s)
  | .wrRefresh value, s => .ok (effWrRefresh value s)
  | .wrPanelW value, s => .ok (effWrPanelW value s)
  | .wrPanelH value, s => .ok (effWrPanelH value s)
  | .wrNLines value, s => .ok (effWrNLines value s)
  | .wrNBits value, s => .ok (effWrNBits value s)
  | .wrFlags value, s => .ok (effWrFlags value s)
  | .wrBcmUnit value, s => .ok (effWrBcmUnit value s)
  | .wrDimTicks value, s => .ok (effWrDimTicks value s)
  | .wrLatchHold value, s => .ok (effWrLatchHold value s)
  | .wrStopTimeout value, s => .ok (effWrStopTimeout value s)
  | .fbWr addr value, s => .ok (effFbWr addr value s)
  | .wrIgnored _ _, _ => .ok effWrIgnored
  | .rdReg reg, s => .ok (effRdReg reg s)
  | .fbRd addr, s => .ok (effFbRd addr s)
  | .rdUnmapped _, _ => .ok effRdUnmapped
  | .idle, _ => .ok effIdle
  | .waitBit, s => .ok (effWaitBit s)
  | .blank, _ => .ok effBlank
  | .shiftGo, s => .ok (effShiftGo s)
  | .shiftWait, s => .ok (effShiftWait s)
  | .latOn, s => .ok (effLatOn s)
  | .latHold, s => .ok (effLatHold s)
  | .latOff, _ => .ok effLatOff
  | .setLine, s => .ok (effSetLine s)
  | .startDim, s => .ok (effStartDim s)
  | .waitDim, s => .ok (effWaitDim s)
  | .startBit, s => .ok (effStartBit s)
  | .unblank, _ => .ok effUnblank
  | .advance, s => .ok (effAdvance s)
  | .vsync, s => effVsync s
  | .prime, s => effPrime s
  | .lIdle, s => .ok (effLIdle s)
  | .lBlank, _ => .ok effLBlank
  | .lLatOn, s => .ok (effLLatOn s)
  | .lLatHold, s => .ok (effLLatHold s)
  | .lLatOff, _ => .ok effLLatOff
  | .lSetLine, s => .ok (effLSetLine s)
  | .lUnblank, s => .ok (effLUnblank s)
  | .lStopWait, s => .ok (effLStopWait s)
  | .lStopSafe, _ => .ok effLStopSafe
  | .lStopReq, s => .ok (effLStopReq s)
  | .lDone, _ => .ok effLDone
  | .onExpire, _ => .ok effOnExpire
  | .lineTick, s => .ok (effLineTick s)
  | .lNop, _ => .ok effLNop
  | .shIdle, _ => .ok effShIdle
  | .shData, s => effShData s
  | .shClkhi, _ => .ok effShClkhi
  | .shClklo, s => .ok (effShClklo s)
  | .shExit, _ => .ok effShExit
  | .pack, s => effPack s
  | .lineSelect n, _ => .ok (effLineSelect n)
  | .startTimer ch d, _ => .ok (effStartTimer ch d)
  | .disarm ch, _ => .ok (effDisarm ch)
  | .shStart bank line plane, _ => .ok (effShStart bank line plane)
  | .shAbort, s => .ok (effShAbort s)
  | .tmrCount, s => .ok (effTmrCount s)
  | .tmrMatchOneshot ch, s => .ok (effTmrMatchOneshot ch s)
  | .tmrMatchPeriodic, s => .ok (effTmrMatchPeriodic s)
  | .shStall, _ => .ok effShStall
  | .reset, _ => .ok {}

/-- The writes of several operations, all on the same pre-tick state. -/
def gather : List Instr → State → Except Fault Effect
  | [], _ => .ok {}
  | i :: is, s =>
    match effectOf i s, gather is s with
    | .ok e, .ok e' => .ok (e.join e')
    | .error f, _ => .error f
    | .ok _, .error f => .error f

/-! ## Fetch -/

/-- The timer's operations, every tick (46_timer.md R170 to R172). -/
def timerOps : List Instr :=
  [.tmrCount, .tmrMatchOneshot .bcm, .tmrMatchOneshot .on, .tmrMatchPeriodic]

/-- The shifter is held this tick (42_shifter.md R117). -/
def stalled (inp : TickIn) (s : State) : Bool :=
  inp.txStall && decide (s.cfg.regime = .line) && decide (s.shPhase ≠ .idle)

/-- The shifter's operation: the one `sh_phase` selects, unless it is stalled. Reserved codes would act as
`SH_IDLE` (30_encoding.md R77). -/
def shifterOp (inp : TickIn) (s : State) : Instr :=
  match stalled inp s with
  | true => .shStall
  | false =>
    match decodeShphase s.shPhase.code with
    | .ok i => i
    | .error _ => .shIdle

/-- The controller's operation: the one `phase` selects, in `L_IDLE` the handler its four flags select.
Reserved codes would act as `IDLE` (30_encoding.md R68, R77). -/
def controllerOp (s : State) : Instr :=
  match decodePhase s.phase.code with
  | .ok .lIdle => decodeLidle s.lidleWord
  | .ok i => i
  | .error _ => .idle

/-- The host's operation, if the tick carries one (40_host_commands.md R80). -/
def hostOps (inp : TickIn) (s : State) : List Instr :=
  match inp.hostOp with
  | some w => [decodeHost s.params w]
  | none => []

/-- The operations of one tick. -/
def fetch (inp : TickIn) (s : State) : List Instr :=
  timerOps ++ shifterOp inp s :: controllerOp s :: hostOps inp s

/-- A tick with `rst = 0` over the pre-tick state `s`. -/
def tick (inp : TickIn) (s : State) : Host.Outcome State Fault Refusal := solo (gather (fetch inp s) s) s

/-! ## Placing an operation where the tick fetches it -/

/-- One quiet tick first: no reset, no host access, no stall. -/
def State.quietly (s : State) : State := { s with inputs := {} :: s.inputs }

/-- Channel `LINE` about to match. -/
def State.withDue (s : State) (ch : Chan) : State :=
  match ch with
  | .bcm => { s with tBcm := { s.tBcm with cmp := s.cnt + 1, arm := true } }
  | .line => { s with tLine := { s.tLine with cmp := s.cnt + 1, arm := true } }
  | .on => { s with tOn := { s.tOn with cmp := s.cnt + 1, arm := true } }

/-- The state in which the next tick runs the operation that the bits `n` select in a format: the host word
as the tick's input, the code in `phase` or `sh_phase`, the four flags of `L_IDLE`, or, for an operation no
bit pattern selects, the condition or the invoking phase under which it runs (30_encoding.md R76). -/
def State.withOp (s : State) (f : Format) (n : Nat) : State :=
  match f with
  | .host => { s with inputs := { hostOp := some (BitVec.ofNat 65 n) } :: s.inputs }
  | .phase =>
    match Phase.ofCode (BitVec.ofNat 5 n) with
    | some ph => { s.quietly with phase := ph }
    | none => s.quietly
  | .lidle =>
    let c := BitVec.ofNat 4 n
    { s.quietly with
      phase := .lIdle, stopReq := c.getLsbD 3, evDone := c.getLsbD 2
      tOn := { s.tOn with ev := c.getLsbD 1 }, tLine := { s.tLine with ev := c.getLsbD 0 } }
  | .shphase =>
    match ShPhase.ofCode (BitVec.ofNat 3 n) with
    | some ph => { s.quietly with shPhase := ph }
    | none => s.quietly
  | .invoked =>
    match decodeInvoked n with
    | .ok .pack => { s.quietly with phase := .vsync }
    | .ok (.lineSelect l) => { s.quietly with phase := .setLine, line := l }
    | .ok (.startTimer .bcm _) => { s.quietly with phase := .startDim }
    | .ok (.startTimer .line _) => { s.quietly with phase := .prime }
    | .ok (.startTimer .on _) => { s.quietly with phase := .lLatOn }
    | .ok (.disarm _) => { s.quietly with phase := .lIdle, stopReq := true }
    | .ok (.shStart bank line plane) =>
      { s.quietly with phase := .shiftGo, rdBank := bank, line := line, bit := plane }
    | .ok .shAbort => { s.quietly with phase := .lStopWait, shPhase := .clkhi, stopCnt := 0 }
    | .ok (.tmrMatchOneshot .bcm) => s.quietly.withDue .bcm
    | .ok (.tmrMatchOneshot .on) => s.quietly.withDue .on
    | .ok .tmrMatchPeriodic => s.quietly.withDue .line
    | .ok .shStall => { s with shPhase := .clkhi, inputs := { txStall := true } :: s.inputs }
    | .ok .reset => { s with inputs := { rst := true } :: s.inputs }
    | _ => s.quietly

end Sys2Proof.Machine
end

