-- ==== Sys2Proof/Machine/Step.lean ====
section
/-! DEFINITION. The step of the machine: one tick. -/

namespace Sys2Proof.Machine

/-- One tick (00_scope.md R6): the environment's inputs are taken, and either the tick is a reset tick, in
which `RESET` alone acts (70_reset_and_hazards.md R200), or every agent acts. -/
def step (s : State) : Host.Outcome State Fault Refusal :=
  match s.input.rst with
  | true => exec .reset s.beginTick
  | false => tick s.input s.beginTick

/-- The state with a table word stored where the next tick fetches it (log 2, log 12). -/
def State.withFetchWord (s : State) (nbits w : Nat) : State := s.withOp (formatOfWidth nbits) w

end Sys2Proof.Machine
end

