-- ==== Sys2Proof/Machine/Observer.lean ====
section
/-! DEFINITION. What the outside sees: the outputs of a tick (20_memory.md R40, 00_scope.md R12) and the
reference panel observer (20_memory.md R52). No rule of the machine reads any of it. -/

namespace Sys2Proof.Machine

/-- The outputs of one tick. -/
structure Output where
  port   : BitVec 14
  irq    : Bool
  rdData : Word
  deriving DecidableEq, Repr

/-- The outputs of the tick that leads from `s` to `t`: the port and `irq` as they stand before it, and the
`rd_data` it answers (20_memory.md R40). -/
def State.output (s t : State) : Output := { port := s.port.word, irq := s.irq, rdData := t.rdData }

/-- The reference panel: its shift register (oldest value first), its output latch, and the clock level of
the port value before (20_memory.md R52). -/
structure Panel where
  sr      : List Byte
  ol      : List Byte
  prevClk : Bool
  deriving DecidableEq, Repr

/-- The observer sees one more port value: it samples `DATA` on a rising clock, and copies its shift register
while `LAT` is 1 (20_memory.md R52(a), (b)). -/
def Panel.observe (p : Panel) (port : Port) : Panel :=
  let sr := match port.clk, p.prevClk with
    | true, false => p.sr ++ [port.data]
    | _, _ => p.sr
  { sr, ol := (match port.lat with | true => sr | false => p.ol), prevClk := port.clk }

/-- What is lit under a port value: the address and the output latch, or nothing (20_memory.md R52(c)). -/
def Panel.lit (p : Panel) (port : Port) : Option (Index3 × List Byte) :=
  match port.oeN with
  | true => none
  | false => some (port.addr, p.ol)

/-- How many of the panel's values are one row (20_memory.md R52(b)). -/
def Cfg.rowClocks (c : Cfg) : Nat :=
  match c.bpp with
  | .rgb => c.rowLen
  | .mono => 8 * c.rowLen

/-- The row in the panel's output latch: its last values (20_memory.md R52(b)). -/
def Panel.row (p : Panel) (c : Cfg) : List Byte := p.ol.drop (p.ol.length - c.rowClocks)

/-- `k` ticks with the observer watching the port value before each of them; none where a tick does not answer
a next state. -/
def watch : Nat → Panel → State → Option (Panel × State)
  | 0, p, s => some (p, s)
  | k + 1, p, s =>
    match step s with
    | .next t => watch k (p.observe s.port) t
    | _ => none

end Sys2Proof.Machine
end

