-- ==== Sys2Proof/Safety.lean ====
section
/-! DEFINITION. What the spec says holds in every reachable state (10_state.md R15, R22; 46_timer.md R178;
70_reset_and_hazards.md R205 to R212), as one invariant `Inv` in named groups. Each clause is strong enough
to be kept by every tick on its own invariant, from any state that has it, reached from reset or not. -/

namespace Sys2Proof.Machine

/-! ## The configuration -/

/-- The table of 10_state.md R22: the ranges and definitions of the active configuration. -/
abbrev Cfg.Legal (p : Params) (c : Cfg) : Prop :=
  (1 ≤ c.nLines ∧ c.nLines ≤ 8) ∧
  (1 ≤ c.nBits ∧ c.nBits ≤ 8 ∧ (c.bpp = .mono ∨ c.regime = .line → c.nBits = 1)) ∧
  (8 ≤ c.panelW ∧ c.panelW ≤ 1024 ∧ c.panelW % 8 = 0) ∧
  ((c.bpp = .rgb → c.panelH = 2 * c.nLines) ∧
    (c.bpp = .mono → c.panelH % c.nLines = 0 ∧ c.nLines ≤ c.panelH ∧ c.panelH ≤ 1024 + 7)) ∧
  (c.xres = c.cols * c.panelW ∧ c.yres = c.rows * c.panelH ∧ 1 ≤ c.cols ∧ 1 ≤ c.rows ∧
    c.nPanels = c.cols * c.rows) ∧
  ((c.bpp = .rgb → c.rowLen = c.panelW * c.nPanels ∧ c.fbBytes = 3 * c.xres * c.yres) ∧
    (c.bpp = .mono → c.rowLen = c.panelW * c.panelH * c.nPanels / (8 * c.nLines) ∧
      c.fbBytes = c.xres * c.yres / 8) ∧
    1 ≤ c.rowLen ∧ c.bpbBytes = c.nLines * c.nBits * c.rowLen ∧
    c.fbBytes ≤ p.fbCap ∧ c.bpbBytes ≤ p.bpbCap) ∧
  (4 ≤ c.bcmUnit ∧ c.bcmUnit < 2 ^ 24 ∧ c.dimTicks < 2 ^ 24 ∧ c.latchHold < 2 ^ 16 ∧
    c.stopTimeout < 2 ^ 32 ∧ 1 ≤ c.refresh ∧ c.refresh ≤ 65535) ∧
  (c.xferTicks = c.bpp.perByte * c.rowLen + 1 ∧
    c.minPeriod = c.xferTicks + c.latchHold + 10 ∧
    c.linePeriod = max c.minPeriod (p.tickHz / (c.refresh * c.nLines)))

end Sys2Proof.Machine

namespace Sys2Proof

/-! ## The phases -/

/-- The phases only the BCM regime has (30_encoding.md R68). -/
def Phase.bcmOnly : Phase → Bool
  | .waitBit | .blank | .shiftGo | .shiftWait | .latOn | .latHold | .latOff | .setLine
  | .startDim | .waitDim | .startBit | .unblank | .advance => true
  | _ => false

/-- The phases only the LINE regime has (30_encoding.md R68). -/
def Phase.lineOnly : Phase → Bool
  | .lIdle | .lBlank | .lLatOn | .lLatHold | .lLatOff | .lSetLine | .lUnblank | .lStopWait | .lStopSafe => true
  | _ => false

/-- The latch sequence of the LINE regime (45_vsync_controller.md R158 to R163). -/
def Phase.latchSeq : Phase → Bool
  | .lBlank | .lLatOn | .lLatHold | .lLatOff | .lSetLine | .lUnblank => true
  | _ => false

/-- The phases in which `LAT` is 1 (44_bcm_sequencer.md R135 to R137; 45_vsync_controller.md R159 to R161). -/
def Phase.latched : Phase → Bool
  | .latHold | .latOff | .lLatHold | .lLatOff => true
  | _ => false

/-- The phases in which the panel is blank whatever has happened before: from the tick after `BLANK` to
`UNBLANK`, from the tick after `L_BLANK` to `L_UNBLANK`, and from a stop to the end of the next `PRIME`
(44_bcm_sequencer.md R145; 45_vsync_controller.md R151, R166). -/
def Phase.dark : Phase → Bool
  | .shiftGo | .shiftWait | .latOn | .latHold | .latOff | .setLine | .startDim | .waitDim | .startBit | .unblank
  | .lLatOn | .lLatHold | .lLatOff | .lSetLine | .lUnblank | .lStopWait | .lStopSafe | .idle | .prime => true
  | _ => false

/-- The phases before the first frame: stopped, or about to take the first snapshot. -/
def Phase.resting : Phase → Bool
  | .idle | .prime => true
  | _ => false

/-- The two phases of the stop sequence after `L_STOP_REQ` (45_vsync_controller.md R164, R165). -/
def Phase.stopping : Phase → Bool
  | .lStopWait | .lStopSafe => true
  | _ => false

end Sys2Proof

namespace Sys2Proof.Machine

/-! ## The groups of the invariant -/

/-- A channel that is disarmed with its event flag 0. -/
abbrev Channel.Quiet (c : Channel) : Prop := c.arm = false ∧ c.ev = false

/-- Parameters and configuration are legal, and the phase belongs to the regime (10_state.md R22;
30_encoding.md R68). -/
abbrev InvCfg (s : State) : Prop :=
  s.params.Legal ∧ s.cfg.Legal s.params ∧
  (s.phase.bcmOnly = true → s.cfg.regime = .bcm) ∧ (s.phase.lineOnly = true → s.cfg.regime = .line)

/-- The cursors (10_state.md R15). `xferLine` may be stale until the first `LINE_TICK` of a run; the rows a
latch sequence can still select have an `xferLine` in range. -/
abbrev InvCursor (s : State) : Prop :=
  s.line.toNat < s.cfg.nLines ∧ s.bit.toNat < s.cfg.nBits ∧
  (s.phase = .idle ∨ s.cfg.regime = .line → s.line = 0 ∧ s.bit = 0) ∧
  (s.phase ≠ .idle → s.scan.toNat < s.cfg.nLines) ∧
  (s.cfg.regime = .line → s.phase.resting = false →
    s.shPhase ≠ .idle ∨ s.evDone = true ∨ s.phase.latchSeq = true → s.xferLine.toNat < s.cfg.nLines)

/-- The delay counters never exceed what loads them (44_bcm_sequencer.md R136; 45_vsync_controller.md R160,
R164). -/
abbrev InvDelay (s : State) : Prop :=
  (s.phase = .latHold ∨ s.phase = .lLatHold → s.dly.toNat ≤ s.cfg.latchHold) ∧
  (s.phase = .lStopWait → s.stopCnt.toNat ≤ s.cfg.stopTimeout)

/-- The transfer in flight (42_shifter.md R110, R118; 20_memory.md R56). -/
abbrev InvShift (s : State) : Prop :=
  (s.shPhase ≠ .idle → s.shLine.toNat < s.cfg.nLines ∧ s.shPlane.toNat < s.cfg.nBits ∧
    s.shIdx.toNat < s.cfg.rowLen) ∧
  (s.evDone = true → s.shPhase = .idle) ∧
  (s.phase.resting = true ∨ s.phase = .lStopSafe ∨ s.phase.latchSeq = true → s.shPhase = .idle) ∧
  (s.phase.resting = true ∨ s.phase.latchSeq = true → s.evDone = false) ∧
  (s.cfg.regime = .bcm → s.phase ≠ .shiftWait → s.shPhase = .idle ∧ s.evDone = false) ∧
  (s.phase = .shiftWait → s.shPhase = .idle → s.evDone = true) ∧
  (s.phase = .vsync → s.shPhase ≠ .idle → s.shBank = s.rdBank)

/-- The port (70_reset_and_hazards.md R205 to R210; 42_shifter.md R110, R113). -/
abbrev InvPort (s : State) : Prop :=
  (s.phase.resting = true → s.port = Port.safe) ∧
  (s.shPhase = .idle → s.port.data = 0) ∧
  (s.port.clk = true ↔ s.shPhase = .clklo) ∧
  (s.port.lat = true ↔ s.phase.latched = true) ∧
  (s.phase.dark = true → s.port.oeN = true) ∧
  s.port.addr.toNat < s.cfg.nLines

/-- Which channels are live (46_timer.md R178). -/
abbrev InvTimer (s : State) : Prop :=
  (s.phase.resting = true ∨ s.phase.stopping = true → s.tBcm.Quiet ∧ s.tLine.Quiet ∧ s.tOn.Quiet) ∧
  (s.phase.resting = false → s.cfg.regime = .bcm → s.tLine.Quiet ∧ s.tOn.Quiet ∧ s.tBcm.arm = !s.tBcm.ev) ∧
  (s.phase.resting = false → s.cfg.regime = .line → s.tBcm.Quiet) ∧
  (s.phase.resting = false → s.phase.stopping = false → s.cfg.regime = .line → s.tLine.arm = true) ∧
  ¬ (s.tOn.arm = true ∧ s.tOn.ev = true)

/-- An accepted stop request is pending only in a running LINE regime whose stop has not begun
(40_host_commands.md R88). -/
abbrev InvStop (s : State) : Prop :=
  s.stopReq = true → s.cfg.regime = .line ∧ s.phase.resting = false ∧ s.phase.stopping = false

/-- The memories are in canonical form and list nothing beyond their capacity (20_memory.md R41). -/
abbrev InvMem (s : State) : Prop :=
  s.fb.wf = true ∧ s.bpb0.wf = true ∧ s.bpb1.wf = true ∧
  s.fb.within s.params.fbCap = true ∧ s.bpb0.within s.params.bpbCap = true ∧
  s.bpb1.within s.params.bpbCap = true

/-- The invariant of the machine. -/
abbrev Inv (s : State) : Prop :=
  InvCfg s ∧ InvCursor s ∧ InvDelay s ∧ InvShift s ∧ InvPort s ∧ InvTimer s ∧ InvStop s ∧ InvMem s

/-! ## Runs -/

/-- No reset tick lies among the inputs to come. -/
abbrev NoReset (s : State) : Prop := ∀ inp ∈ s.inputs, inp.rst = false

/-- `k` ticks, stopping at the first that does not answer a next state: `Host.Core.run` of this machine. -/
def run (k : Nat) (s : State) : Host.Outcome State Fault Refusal :=
  match k with
  | 0 => .next s
  | k + 1 =>
    match step s with
    | .next t => run k t
    | .fault f => .fault f
    | .refused r => .refused r

/-- An answer with its next state changed. -/
def mapNext (f : State → State) (o : Host.Outcome State Fault Refusal) : Host.Outcome State Fault Refusal :=
  match o with
  | .next t => .next (f t)
  | .fault e => .fault e
  | .refused r => .refused r

/-! ## The terms claims use -/

/-- The state with a sticky flag raised and nothing else changed (60_exceptions.md R180). -/
def State.raise (s : State) (f : StickyFlag) : State := { s with sticky := s.sticky.union f.bits }

/-- The state with the counter one further (46_timer.md R170). -/
def State.counted (s : State) : State := { s with cnt := s.cnt + 1 }

/-- No channel matches in the next tick (46_timer.md R171, R172). -/
abbrev NoMatch (s : State) : Prop :=
  chanMatches s.cnt s.tBcm = false ∧ chanMatches s.cnt s.tLine = false ∧ chanMatches s.cnt s.tOn = false

/-- Every byte `PACK` reads and writes exists (log 14). -/
abbrev PackFits (s : State) : Prop :=
  packReadsExist s.params s.cfg = true ∧ packWritesExist s.params s.cfg = true

/-- A channel as `START_TIMER` leaves it (46_timer.md R173). -/
def Channel.started (cnt d : Word) : Channel :=
  { cmp := cnt + d, arm := decide (2 ≤ d.toNat), ev := decide (d.toNat ≤ 1) }

/-- A channel as `DISARM` leaves it (46_timer.md R174). -/
def Channel.silenced (c : Channel) : Channel := { c with arm := false, ev := false }

/-- A channel whose event a consumer has cleared. -/
def Channel.consumed (c : Channel) : Channel := { c with ev := false }

/-- The state with one channel replaced. -/
def State.withChan (s : State) (ch : Chan) (c : Channel) : State :=
  match ch with
  | .bcm => { s with tBcm := c }
  | .line => { s with tLine := c }
  | .on => { s with tOn := c }

/-- The channel of a one-shot match. -/
def oneShotChan : OneShot → Chan
  | .bcm => .bcm
  | .on => .on

/-- The state with the counter and every compare value moved by one amount (46_timer.md R175). -/
def State.shiftCnt (d : Word) (s : State) : State :=
  { s with
    cnt := s.cnt + d
    tBcm := { s.tBcm with cmp := s.tBcm.cmp + d }
    tLine := { s.tLine with cmp := s.tLine.cmp + d }
    tOn := { s.tOn with cmp := s.tOn.cmp + d } }

/-- The state with a transfer started (42_shifter.md R111). -/
def State.shifting (s : State) (bank : Bool) (line plane : Index3) : State :=
  { s with
    shBank := bank, shLine := line, shPlane := plane, shIdx := 0, shBit := 7, shPhase := .data,
    evDone := false }

/-- The state with the transfer aborted (42_shifter.md R116). -/
def State.aborted (s : State) : State :=
  { s with
    shPhase := .idle, shIdx := 0, shBit := 7, evDone := false
    port := { s.port with data := 0, clk := false } }

/-- The staged registers with a configuration written back to them (40_host_commands.md R90, corner cases). -/
def Cfg.staged (c : Cfg) : Stg :=
  { xres := BitVec.ofNat 16 c.xres, yres := BitVec.ofNat 16 c.yres, bpp := BitVec.ofNat 8 c.bpp.bpp,
    refresh := BitVec.ofNat 16 c.refresh, panelW := BitVec.ofNat 16 c.panelW,
    panelH := BitVec.ofNat 16 c.panelH, nLines := BitVec.ofNat 8 c.nLines, nBits := BitVec.ofNat 8 c.nBits,
    flags := c.flags, bcmUnit := BitVec.ofNat 32 c.bcmUnit, dimTicks := BitVec.ofNat 32 c.dimTicks,
    latchHold := BitVec.ofNat 16 c.latchHold, stopTimeout := BitVec.ofNat 32 c.stopTimeout }

/-- A pass of the BCM regime is about to begin: `WAIT_BIT` sees its event (44_bcm_sequencer.md R144, tick
`w`). -/
abbrev PassBegins (s : State) : Prop :=
  Inv s ∧ NoReset s ∧ s.phase = .waitBit ∧ s.tBcm.ev = true

/-- The blank ticks of a pass, `PASS_OVH` (44_bcm_sequencer.md R144). -/
def Cfg.passOverhead (c : Cfg) : Nat := c.xferTicks + c.latchHold + max c.dimTicks 1 + 9

/-- The phase before each tick of a pass, counted from the tick in which `WAIT_BIT` sees its event, up to
`ADVANCE` (44_bcm_sequencer.md R144, the table). -/
def Cfg.passPhase (c : Cfg) (j : Nat) : Phase :=
  let x := c.xferTicks
  let h := c.latchHold
  let d := max c.dimTicks 1
  if j = 0 then .waitBit
  else if j = 1 then .blank
  else if j = 2 then .shiftGo
  else if j ≤ 3 + x then .shiftWait
  else if j = 4 + x then .latOn
  else if j ≤ 5 + x + h then .latHold
  else if j = 6 + x + h then .latOff
  else if j = 7 + x + h then .setLine
  else if j = 8 + x + h then .startDim
  else if j ≤ 8 + x + h + d then .waitDim
  else if j = 9 + x + h + d then .startBit
  else if j = 10 + x + h + d then .unblank
  else .advance

/-- The phase before each tick of a latch sequence, counted from the tick of `L_DONE`
(45_vsync_controller.md R168, the part from `L_DONE` on). -/
def Cfg.latchPhase (c : Cfg) (j : Nat) : Phase :=
  let h := c.latchHold
  if j = 0 then .lIdle
  else if j = 1 then .lBlank
  else if j = 2 then .lLatOn
  else if j ≤ 3 + h then .lLatHold
  else if j = 4 + h then .lLatOff
  else if j = 5 + h then .lSetLine
  else if j = 6 + h then .lUnblank
  else .lIdle

/-- The row a transfer sends, byte by byte (42_shifter.md R118). -/
def State.rowBytes (s : State) : List Byte :=
  (List.range s.cfg.rowLen).map fun i =>
    (s.bank s.shBank).read (bpbOff s.cfg s.shLine.toNat s.shPlane.toNat i)

/-- A byte as the mono format sends it: bit 7 first, each bit a value 0 or 1 of `DATA` (42_shifter.md
R118). -/
def serialBits (b : Byte) : List Byte :=
  [7, 6, 5, 4, 3, 2, 1, 0].map fun j => (BitVec.ofBool (b.getLsbD j)).setWidth 8

/-- What the panel receives of a row (42_shifter.md R118(d)). -/
def State.rowClocked (s : State) : List Byte :=
  match s.cfg.bpp with
  | .rgb => s.rowBytes
  | .mono => s.rowBytes.flatMap serialBits

/-- No `STOP` lies among the inputs to come. -/
abbrev NoStop (s : State) : Prop := ∀ inp ∈ s.inputs, inp.hostOp ≠ some (HostWord.write 0x00 2)

/-- A transfer has just been started, and no stop that could abort it is under way or to come (42_shifter.md
R118: "with no stall and no abort"; its stalls are `stallsAt`). The BCM regime has no stop. -/
abbrev TransferBegins (s : State) : Prop :=
  Inv s ∧ NoReset s ∧ s.shPhase = .data ∧ s.shIdx = 0 ∧ s.shBit = 7 ∧
  (s.cfg.regime = .line → s.phase.stopping = false ∧ s.stopReq = false ∧ NoStop s)

/-- The `j`-th tick from here holds a busy shifter: `tx_stall` in the LINE regime (42_shifter.md R117). -/
def State.stallsAt (s : State) (j : Nat) : Bool :=
  decide (s.cfg.regime = .line) && (s.inputs.getD j {}).txStall

/-- How many of the next `m` ticks do not hold a busy shifter (42_shifter.md R118(e)). -/
def State.shifterTicks (s : State) (m : Nat) : Nat := (List.range m).countP fun j => !s.stallsAt j

/-- The controller waits: in this phase and with these flags it writes nothing (44_bcm_sequencer.md R130, R131,
R134, R140; 45_vsync_controller.md R153, `L_NOP`). -/
def State.waits (s : State) : Bool :=
  match s.phase with
  | .idle => true
  | .waitBit | .waitDim => !s.tBcm.ev
  | .shiftWait => !s.evDone
  | .lIdle => !(s.stopReq || s.evDone || s.tOn.ev || s.tLine.ev)
  | _ => false

end Sys2Proof.Machine
end

