-- ==== Sys2Proof/Certificates/Slice0/Obligations.lean ====
section
/-! DEFINITION. The statements about the machine, from the numbered rules of the spec. -/

section

open Sys2Proof Sys2Proof.Machine

/-! ## Encodings -/

/-- Every well-formed operation decodes from its encoding, with every operand at every value its encoding
admits (30_encoding.md R60, R62, R68 to R70; the `INVOKED` words are the model's own, log 11). -/
def Obligations.DecodeOfEncode : Prop :=
  ∀ (p : Params) (i : Instr), WellFormed p i → decode p (encode i).1 (encode i).2 = .ok i

/-- Every host access has one meaning: encoding what a `HOST` word decodes to gives the word back, for a read
written with value 0 (30_encoding.md R60, 40_host_commands.md R80). -/
def Obligations.EncodeOfDecodedHostWord : Prop :=
  ∀ (p : Params) (w : HostWord), (w.rw = false → w.value = 0) → encode (decodeHost p w) = (.host, w.toNat)

/-- Every host access decodes to an operation that meets its row's condition, and an access outside the map
decodes to the operation without effect (40_host_commands.md R80, R82, R93). -/
def Obligations.HostDecodingIsTotal : Prop :=
  ∀ (p : Params) (w : HostWord),
    WellFormed p (decodeHost p w) ∧
    (w.rw = true → w.addr.toNat ∉ writableOffsets → ¬ InFbWindow p w.addr →
      decodeHost p w = .wrIgnored w.addr w.value) ∧
    (w.rw = false → w.addr.toNat ∉ regOffsets → ¬ InFbWindow p w.addr →
      decodeHost p w = .rdUnmapped w.addr)

/-- The reserved selector codes are rejected by name, and only they (30_encoding.md R68, R69, R76, R77). That
they are rejected rather than act as `IDLE` is the model's choice (log 13), the `INVOKED` words its own (log
11). -/
def Obligations.ReservedCodesAreRejected : Prop :=
  (∀ c : BitVec 5, decodePhase c = .error .reservedPhase ↔ 25 ≤ c.toNat) ∧
  (∀ c : BitVec 3, decodeShphase c = .error .reservedShPhase ↔ 5 ≤ c.toNat) ∧
  (∀ n : Nat, decodeInvoked n = .error .noSuchRow ↔ n % 256 = 0 ∨ 11 < n % 256)

/-- A word of each format, written out from the spec's encodings, decodes to its operation (30_encoding.md
R60, R62, R68, R69, R70; the operand field of the `INVOKED` word is the model's own, log 11). -/
def Obligations.WrittenWordsDecode : Prop :=
  decode Params.vectors .host 0x1_00000000_00000003 = .ok .modeset ∧
  decode Params.vectors .host 0x1_00000020_00000008 = .ok (.wrXres 8) ∧
  decode Params.vectors .host 0x1_00010005_000001A7 = .ok (.fbWr 0x10005 0x1A7) ∧
  decode Params.vectors .host 0x0_00000004_00000000 = .ok (.rdReg .status) ∧
  decode Params.vectors .host 0x0_00020000_00000000 = .ok (.rdUnmapped 0x20000) ∧
  decode Params.vectors .phase 0b01110 = .ok .vsync ∧
  decode Params.vectors .phase 0b11000 = .ok .lStopSafe ∧
  decode Params.vectors .lidle 0b0011 = .ok .onExpire ∧
  decode Params.vectors .shphase 0b011 = .ok .shClklo ∧
  decode Params.vectors .invoked 6 = .ok .shAbort

/-! ## A step runs the decoded operations -/

/-- A reset tick runs `RESET` and nothing else: the tick's other inputs do not matter (70_reset_and_hazards.md
R200). -/
def Obligations.ResetTickRunsReset : Prop :=
  ∀ s : State, s.input.rst = true →
    step s = exec .reset s.beginTick ∧
    ∀ inp : TickIn, inp.rst = true → step { s with inputs := inp :: s.inputs.tail } = step s

/-- A tick in which only the controller acts, the environment being quiet, the shifter idle and no channel
matching, runs the operation decoded from `phase` and advances the counter; in `L_IDLE`, the handler decoded
from the four flags (00_scope.md R6, R9; 30_encoding.md R68; 45_vsync_controller.md R153). -/
def Obligations.StepRunsControllerOperation : Prop :=
  ∀ (s : State) (i : Instr), s.input = {} → s.shPhase = .idle → NoMatch s →
    decode s.params .phase s.phase.code.toNat = .ok i →
    step s = mapNext State.counted (exec i s.beginTick) ∧
    (s.phase = .lIdle → ∀ h : Instr, decode s.params .lidle s.lidleWord.toNat = .ok h →
      step s = mapNext State.counted (exec h s.beginTick))

/-- A tick carries out the host access decoded from its host word, in every phase and whatever the other agents
do in it: `FB`, the staged registers, the configuration, the settings, the answer and the host's own error flags
come out as the operation leaves them, and `stop_req` too, unless `L_STOP_REQ` takes an older request up. Where
the controller only waits, the shifter is idle and no channel matches, the tick is the operation and the counter
(40_host_commands.md R80; 20_memory.md R50(c)). -/
def Obligations.StepRunsHostAccess : Prop :=
  ∀ (s : State) (w : HostWord) (i : Instr), s.input.rst = false → s.input.hostOp = some w →
    decode s.params .host w.toNat = .ok i →
    (∃ u, exec i s.beginTick = .next u ∧
      ∀ t, step s = .next t →
        t.fb = u.fb ∧ t.stg = u.stg ∧ t.cfg = u.cfg ∧ t.brightness = u.brightness ∧ t.irqEn = u.irqEn ∧
        t.rdData = u.rdData ∧ t.sticky.errCmd = u.sticky.errCmd ∧ t.sticky.errNomem = u.sticky.errNomem ∧
        t.stopReq = if s.phase = .lIdle ∧ s.stopReq = true then false else u.stopReq) ∧
    (s.waits = true → s.shPhase = .idle → NoMatch s →
      step s = mapNext State.counted (exec i s.beginTick))

/-- A tick in which only the shifter acts, the controller waiting (in `SHIFT_WAIT` before the completion, in
`L_IDLE` with no flag set, in `IDLE` or for a timer event), no host access and no channel matching, runs the
operation decoded from `sh_phase`, or `SH_STALL` where the transfer is stalled, and advances the counter
(30_encoding.md R69, 42_shifter.md R117). -/
def Obligations.StepRunsShifterOperation : Prop :=
  ∀ (s : State) (i : Instr), s.input.rst = false → s.input.hostOp = none → s.waits = true → NoMatch s →
    decode s.params .shphase s.shPhase.code.toNat = .ok i →
    step s = mapNext State.counted
      (exec (if s.input.txStall = true ∧ s.cfg.regime = .line ∧ s.shPhase ≠ .idle then .shStall else i)
        s.beginTick)

/-! ## Host operations -/

/-- The commands, from the words that select them, by the state that takes them: the matrix of
40_host_commands.md R94, with what each accepted command does (R87, R88, R90, R91) and, field by field, what
`MODESET` computes. -/
def Obligations.CommandMatrix : Prop :=
  ∀ s : State,
    (decodeHost s.params (HostWord.write 0x00 1) = .start ∧
      decodeHost s.params (HostWord.write 0x00 2) = .stop ∧
      decodeHost s.params (HostWord.write 0x00 3) = .modeset) ∧
    exec .start s = .next
      (if s.phase = .idle then { s with phase := .prime, line := 0, bit := 0, scan := 0 }
       else s.raise .errCmd) ∧
    exec .stop s = .next
      (if s.phase = .idle then s
       else if s.cfg.regime = .line ∧ s.stopReq = false ∧ s.phase ≠ .lStopWait ∧ s.phase ≠ .lStopSafe then
         { s with stopReq := true }
       else s.raise .errCmd) ∧
    exec .modeset s = .next
      (if s.phase ≠ .idle then s.raise .errCmd
       else if (validate s.params s.stg).fbBytes ≤ s.params.fbCap ∧
           (validate s.params s.stg).bpbBytes ≤ s.params.bpbCap then
         { s with cfg := validate s.params s.stg }
       else s.raise .errNomem) ∧
    (∀ v : Word, v ≠ 1 → v ≠ 2 → v ≠ 3 →
      decodeHost s.params (HostWord.write 0x00 v) = .cmdReserved v ∧
      exec (.cmdReserved v) s = .next (s.raise .errCmd)) ∧
    (let g := s.stg
     let c := validate s.params g
     (c.regime = .line ↔ g.flags.getLsbD 2 = true) ∧ c.bitrev = g.flags.getLsbD 1 ∧
     (c.wiring = .horizontal ↔ g.flags.getLsbD 0 = true) ∧
     c.nLines = max 1 (min g.nLines.toNat 8) ∧ (c.bpp = .mono ↔ g.bpp.toNat ≤ 1) ∧
     c.nBits = (if c.regime = .line ∨ c.bpp = .mono then 1 else max 1 (min g.nBits.toNat 8)) ∧
     c.panelW = (max 8 (min g.panelW.toNat 1024) + 7) / 8 * 8 ∧
     c.panelH =
       (match c.bpp with
        | .rgb => 2 * c.nLines
        | .mono => (max c.nLines (min g.panelH.toNat 1024) + c.nLines - 1) / c.nLines * c.nLines) ∧
     c.xres = (max g.xres.toNat 1 + c.panelW - 1) / c.panelW * c.panelW ∧
     c.yres = (max g.yres.toNat 1 + c.panelH - 1) / c.panelH * c.panelH ∧
     c.cols = c.xres / c.panelW ∧ c.rows = c.yres / c.panelH ∧ c.nPanels = c.cols * c.rows ∧
     c.rowLen =
       (match c.bpp with
        | .rgb => c.panelW * c.nPanels
        | .mono => c.panelW * c.panelH * c.nPanels / (8 * c.nLines)) ∧
     c.fbBytes = (match c.bpp with | .rgb => 3 * c.xres * c.yres | .mono => c.xres * c.yres / 8) ∧
     c.bpbBytes = c.nLines * c.nBits * c.rowLen ∧
     c.bcmUnit = max 4 (min g.bcmUnit.toNat (2 ^ 24 - 1)) ∧ c.dimTicks = min g.dimTicks.toNat (2 ^ 24 - 1) ∧
     c.latchHold = g.latchHold.toNat ∧ c.stopTimeout = g.stopTimeout.toNat ∧
     c.refresh = max 1 g.refresh.toNat ∧
     c.xferTicks = (match c.bpp with | .rgb => 3 | .mono => 24) * c.rowLen + 1 ∧
     c.minPeriod = c.xferTicks + c.latchHold + 10 ∧
     c.linePeriod = max c.minPeriod (s.params.tickHz / (c.refresh * c.nLines)))

/-- A configuration that passes the capacity test is legal: every range and definition of 10_state.md R22
holds of it. -/
def Obligations.ModesetGivesLegalConfiguration : Prop :=
  ∀ (p : Params) (g : Stg), p.Legal →
    (validate p g).fbBytes ≤ p.fbCap → (validate p g).bpbBytes ≤ p.bpbCap → (validate p g).Legal p

/-- Validation is idempotent: a validated configuration written back to the staged registers validates to
itself, where its display size fits the 16 bits of those registers (40_host_commands.md R90, corner
cases). -/
def Obligations.ValidationIsIdempotent : Prop :=
  ∀ (p : Params) (g : Stg), (validate p g).xres < 2 ^ 16 → (validate p g).yres < 2 ^ 16 →
    validate p (validate p g).staged = validate p g

/-- `TCS(k)` doubles with the plane and its last entry is the dim duration; under a legal configuration every
duration fits the counter, so that none is truncated (46_timer.md R176; 30_encoding.md R67, R78(f)). -/
def Obligations.DurationsDoubleAndFit : Prop :=
  ∀ s : State, s.params.Legal → s.cfg.Legal s.params →
    (∀ k, k < s.cfg.nBits → s.cfg.tcs k = s.cfg.bcmUnit * 2 ^ k ∧ s.cfg.tcs k = 2 ^ k * s.cfg.tcs 0) ∧
    s.cfg.tcs s.cfg.nBits = s.cfg.dimTicks ∧ 4 ≤ s.cfg.tcs 0 ∧
    (∀ k, k < s.cfg.nBits → s.cfg.tcs k ≤ (2 ^ 24 - 1) * 2 ^ 7) ∧ s.cfg.tcs s.cfg.nBits < 2 ^ 24 ∧
    s.cfg.minPeriod < 2 ^ 29 ∧ s.cfg.minPeriod ≤ s.cfg.linePeriod ∧ s.cfg.linePeriod < 2 ^ 32 ∧
    s.onTime ≤ s.cfg.linePeriod

/-- `WR_STATUS` clears the sticky flags whose bits are written as 1, `WR_IRQ_EN` keeps the four enable bits,
`WR_BRIGHTNESS` the low byte; nothing else changes (40_host_commands.md R83 to R85; 30_encoding.md R73). -/
def Obligations.StatusAndSettingWrites : Prop :=
  ∀ (s : State) (v : Word),
    (∃ t, exec (.wrStatus v) s = .next t ∧ t.sticky.word = s.sticky.word &&& ~~~(v &&& 0x5C) ∧
      { t with sticky := s.sticky } = s) ∧
    (∃ t, exec (.wrIrqEn v) s = .next t ∧ t.irqEn.word = v &&& 0x5C ∧ { t with irqEn := s.irqEn } = s) ∧
    exec (.wrBrightness v) s = .next { s with brightness := v.extractLsb' 0 8 }

/-- `WR_STAGED`: each staged register keeps the low bits of the value, and no other state changes, in
particular not `cfg` (40_host_commands.md R89). -/
def Obligations.StagedWrites : Prop :=
  ∀ (s : State) (v : Word),
    exec (.wrXres v) s = .next { s with stg := { s.stg with xres := v.extractLsb' 0 16 } } ∧
    exec (.wrYres v) s = .next { s with stg := { s.stg with yres := v.extractLsb' 0 16 } } ∧
    exec (.wrBpp v) s = .next { s with stg := { s.stg with bpp := v.extractLsb' 0 8 } } ∧
    exec (.wrRefresh v) s = .next { s with stg := { s.stg with refresh := v.extractLsb' 0 16 } } ∧
    exec (.wrPanelW v) s = .next { s with stg := { s.stg with panelW := v.extractLsb' 0 16 } } ∧
    exec (.wrPanelH v) s = .next { s with stg := { s.stg with panelH := v.extractLsb' 0 16 } } ∧
    exec (.wrNLines v) s = .next { s with stg := { s.stg with nLines := v.extractLsb' 0 8 } } ∧
    exec (.wrNBits v) s = .next { s with stg := { s.stg with nBits := v.extractLsb' 0 8 } } ∧
    exec (.wrFlags v) s = .next { s with stg := { s.stg with flags := v.extractLsb' 0 3 } } ∧
    exec (.wrBcmUnit v) s = .next { s with stg := { s.stg with bcmUnit := v } } ∧
    exec (.wrDimTicks v) s = .next { s with stg := { s.stg with dimTicks := v } } ∧
    exec (.wrLatchHold v) s = .next { s with stg := { s.stg with latchHold := v.extractLsb' 0 16 } } ∧
    exec (.wrStopTimeout v) s = .next { s with stg := { s.stg with stopTimeout := v } }

/-- `FB_WR` stores the low byte of the value at the offset of its address, every other byte of `FB` and all
other state keeping its value; `FB_RD` answers the byte there; outside the map a write does nothing and a read
answers 0 (40_host_commands.md R82, R86, R92, R93; 20_memory.md R42, R43). -/
def Obligations.HostMemoryAccess : Prop :=
  ∀ (s : State) (addr v : Word),
    (InFbWindow s.params addr →
      (∃ t, exec (.fbWr addr v) s = .next t ∧
        t.fb.read (addr.toNat - 0x10000) = v.extractLsb' 0 8 ∧
        (∀ x, x ≠ addr.toNat - 0x10000 → t.fb.read x = s.fb.read x) ∧ { t with fb := s.fb } = s) ∧
      exec (.fbRd addr) s = .next { s with rdData := (s.fb.read (addr.toNat - 0x10000)).setWidth 32 }) ∧
    exec (.wrIgnored addr v) s = .next s ∧
    exec (.rdUnmapped addr) s = .next { s with rdData := 0 }

/-- `RD_REG` answers the register's value and changes nothing else: `CTRL` reads 0; `STATUS` shows the sticky
flags at bits 2, 3, 4 and 6 and the derived bits `RUNNING`, `XFER_BUSY` and `CMD_BUSY` at 0, 1 and 5; `IRQ_EN`
its four bits at the same places; `SCAN` and `PORT` each piece of state at its bits; `BRIGHTNESS` and the
thirteen staged registers their value; all other bits are 0 (40_host_commands.md R81; 30_encoding.md R61, R62,
R65, R66, R73). -/
def Obligations.StatusScanAndPortReads : Prop :=
  ∀ (s : State) (r : HostReg),
    exec (.rdReg r) s = .next { s with rdData := s.readReg r } ∧
    s.readReg .ctrl = 0 ∧
    (s.readReg .status).getLsbD 0 = decide (s.phase ≠ .idle) ∧
    (s.readReg .status).getLsbD 1 = decide (s.shPhase ≠ .idle) ∧
    (s.readReg .status).getLsbD 2 = s.sticky.vsync ∧
    (s.readReg .status).getLsbD 3 = s.sticky.errNomem ∧
    (s.readReg .status).getLsbD 4 = s.sticky.stopTimeout ∧
    (s.readReg .status).getLsbD 5 =
      (s.stopReq || decide (s.phase = .lStopWait) || decide (s.phase = .lStopSafe)) ∧
    (s.readReg .status).getLsbD 6 = s.sticky.errCmd ∧
    (s.readReg .status) >>> 7 = 0 ∧
    s.readReg .irqEn =
      0#25 ++ BitVec.ofBool s.irqEn.errCmd ++ 0#1 ++ BitVec.ofBool s.irqEn.stopTimeout ++
        BitVec.ofBool s.irqEn.errNomem ++ BitVec.ofBool s.irqEn.vsync ++ 0#2 ∧
    s.readReg .scan =
      0#1 ++ s.xferLine ++ 0#1 ++ s.shPhase.code ++ 0#3 ++ s.phase.code ++ 0#1 ++ s.scan ++ 0#3 ++
        BitVec.ofBool s.rdBank ++ 0#1 ++ s.bit ++ 0#1 ++ s.line ∧
    s.readReg .port =
      0#18 ++ s.port.addr ++ BitVec.ofBool s.port.oeN ++ BitVec.ofBool s.port.lat ++
        BitVec.ofBool s.port.clk ++ s.port.data ∧
    s.readReg .brightness = 0#24 ++ s.brightness ∧
    s.readReg .xres = 0#16 ++ s.stg.xres ∧ s.readReg .yres = 0#16 ++ s.stg.yres ∧
    s.readReg .bpp = 0#24 ++ s.stg.bpp ∧ s.readReg .refresh = 0#16 ++ s.stg.refresh ∧
    s.readReg .panelW = 0#16 ++ s.stg.panelW ∧ s.readReg .panelH = 0#16 ++ s.stg.panelH ∧
    s.readReg .nLines = 0#24 ++ s.stg.nLines ∧ s.readReg .nBits = 0#24 ++ s.stg.nBits ∧
    s.readReg .flags = 0#29 ++ s.stg.flags ∧ s.readReg .bcmUnit = s.stg.bcmUnit ∧
    s.readReg .dimTicks = s.stg.dimTicks ∧ s.readReg .latchHold = 0#16 ++ s.stg.latchHold ∧
    s.readReg .stopTimeout = s.stg.stopTimeout

/-- Under a legal configuration the active registers and the derived ones read as the quantities of `cfg`: none
is cut by its register's width; `A_FLAGS` shows `WIRING`, `BITREV` and `REGIME` at bits 0, 1 and 2
(30_encoding.md R62, R67; 40_host_commands.md R81). -/
def Obligations.ActiveRegistersReadTheirFields : Prop :=
  ∀ s : State, s.params.Legal → s.cfg.Legal s.params →
    (s.readReg .aXres).toNat = s.cfg.xres ∧ (s.readReg .aYres).toNat = s.cfg.yres ∧
    (s.readReg .aBpp).toNat = s.cfg.bpp.bpp ∧ (s.readReg .aRefresh).toNat = s.cfg.refresh ∧
    (s.readReg .aPanelW).toNat = s.cfg.panelW ∧ (s.readReg .aPanelH).toNat = s.cfg.panelH ∧
    (s.readReg .aNLines).toNat = s.cfg.nLines ∧ (s.readReg .aNBits).toNat = s.cfg.nBits ∧
    (s.readReg .aFlags).getLsbD 0 = decide (s.cfg.wiring = .horizontal) ∧
    (s.readReg .aFlags).getLsbD 1 = s.cfg.bitrev ∧
    (s.readReg .aFlags).getLsbD 2 = decide (s.cfg.regime = .line) ∧ (s.readReg .aFlags) >>> 3 = 0 ∧
    (s.readReg .aBcmUnit).toNat = s.cfg.bcmUnit ∧ (s.readReg .aDimTicks).toNat = s.cfg.dimTicks ∧
    (s.readReg .aLatchHold).toNat = s.cfg.latchHold ∧
    (s.readReg .aStopTimeout).toNat = s.cfg.stopTimeout ∧
    (s.readReg .nPanels).toNat = s.cfg.nPanels ∧ (s.readReg .rowLen).toNat = s.cfg.rowLen ∧
    (s.readReg .linePeriod).toNat = s.cfg.linePeriod ∧ (s.readReg .fbBytes).toNat = s.cfg.fbBytes ∧
    (s.readReg .bpbBytes).toNat = s.cfg.bpbBytes ∧ (s.readReg .cols).toNat = s.cfg.cols ∧
    (s.readReg .rows).toNat = s.cfg.rows ∧ (s.readReg .minPeriod).toNat = s.cfg.minPeriod

/-- No host read has a side effect: a tick that carries a read leads to the same state as the tick without it,
but for the answer (20_memory.md R50(e)). -/
def Obligations.HostReadsHaveNoSideEffect : Prop :=
  ∀ (s : State) (w : HostWord) (stall : Bool), w.rw = false →
    ∃ answer : Word,
      step { s with inputs := { hostOp := some w, txStall := stall } :: s.inputs } =
        mapNext (fun t => { t with rdData := answer })
          (step { s with inputs := { txStall := stall } :: s.inputs })

/-- The interrupt line is 1 exactly where an enabled sticky flag is set (60_exceptions.md R186). -/
def Obligations.InterruptLine : Prop :=
  ∀ s : State, s.irq = true ↔ s.sticky.word &&& s.irqEn.word &&& 0x5C ≠ 0

/-- A raise wins over a write-1-to-clear of the same tick, and a flag neither raised nor cleared stays
(40_host_commands.md R83, 20_memory.md R49): what the sticky flags are after a tick that writes `STATUS`. -/
def Obligations.StickyFlagsSetWinsOverClear : Prop :=
  ∀ (s t : State) (v : Word), s.input.rst = false → s.input.hostOp = some (HostWord.write 0x04 v) →
    step s = .next t →
    t.sticky.word =
      (s.sticky.word &&& ~~~(v &&& 0x5C)) |||
        (if s.phase = .prime ∨ s.phase = .vsync then 0x04 else 0) |||
        (if s.phase = .lStopWait ∧ s.shPhase ≠ .idle ∧ s.stopCnt = 0 then 0x10 else 0)

/-! ## The BCM regime -/

/-- `IDLE`, the waiting phases of the BCM regime and those that write the port or the delay, by themselves: the
phase after, the field written, and nothing else (44_bcm_sequencer.md R130 to R132, R134 to R138, R140, R142);
`dly` takes the low 16 bits of a latch hold, which is below `2^16` in a legal configuration. -/
def Obligations.BcmWaitingAndPortPhases : Prop :=
  ∀ s : State,
    exec .idle s = .next s ∧
    exec .waitBit s = .next { s with phase := if s.tBcm.ev = true then .blank else .waitBit } ∧
    exec .shiftWait s = .next
      (if s.evDone = true then { s with evDone := false, phase := .latOn }
       else { s with phase := .shiftWait }) ∧
    exec .waitDim s = .next { s with phase := if s.tBcm.ev = true then .startBit else .waitDim } ∧
    exec .blank s = .next { s with port := { s.port with oeN := true }, phase := .shiftGo } ∧
    exec .latOn s = .next
      { s with port := { s.port with lat := true }, dly := BitVec.ofNat 16 s.cfg.latchHold,
               phase := .latHold } ∧
    exec .latHold s = .next
      (if s.dly = 0 then { s with phase := .latOff }
       else { s with dly := s.dly - 1, phase := .latHold }) ∧
    exec .latOff s = .next { s with port := { s.port with lat := false }, phase := .setLine } ∧
    exec .setLine s = .next { s with port := { s.port with addr := s.line }, phase := .startDim } ∧
    exec .unblank s = .next { s with port := { s.port with oeN := false }, phase := .advance }

/-- The phases of the BCM regime that start the shifter or the timer or move the cursors, by themselves
(44_bcm_sequencer.md R133, R139, R141, R143; 46_timer.md R176). -/
def Obligations.BcmStartingPhases : Prop :=
  ∀ s : State,
    exec .shiftGo s = .next { s.shifting s.rdBank s.line s.bit with phase := .shiftWait } ∧
    exec .startDim s = .next
      { s with tBcm := Channel.started s.cnt (BitVec.ofNat 32 s.cfg.dimTicks), phase := .waitDim } ∧
    (s.bit.toNat < s.cfg.nBits → exec .startBit s = .next
      { s with tBcm := Channel.started s.cnt (BitVec.ofNat 32 (s.cfg.bcmUnit * 2 ^ s.bit.toNat)),
               phase := .unblank }) ∧
    exec .advance s = .next
      (if s.bit.toNat + 1 < s.cfg.nBits then { s with bit := s.bit + 1, phase := .waitBit }
       else if s.line.toNat + 1 < s.cfg.nLines then
         { s with bit := 0, line := s.line + 1, phase := .waitBit }
       else { s with bit := 0, line := 0, phase := .vsync })

/-- One pass, tick by tick: from the tick in which `WAIT_BIT` sees its event the controller goes through the
phases of the table of 44_bcm_sequencer.md R144, and `PASS_OVH + TCS(k)` ticks later `WAIT_BIT` sees the next
event; host accesses and stalls change none of it. -/
def Obligations.BcmPassSchedule : Prop :=
  ∀ s : State, PassBegins s →
    (∀ j, j ≤ s.cfg.passOverhead + 2 → ∃ t, run j s = .next t ∧ t.phase = s.cfg.passPhase j) ∧
    (∀ j, s.cfg.passOverhead + 2 < j → j < s.cfg.passOverhead + s.cfg.tcs s.bit.toNat →
      ∃ t, run j s = .next t ∧ (t.phase = .waitBit ∧ t.tBcm.ev = false ∨ t.phase = .vsync)) ∧
    ∃ t, run (s.cfg.passOverhead + s.cfg.tcs s.bit.toNat) s = .next t ∧ t.phase = .waitBit ∧
      t.tBcm.ev = true

/-- The display duration law: from `START_BIT` on, the port shows `OE_N = 0` for exactly `BCM_UNIT << k`
consecutive ticks, the second to the last of them being the ports before the ticks that follow `UNBLANK`
(44_bcm_sequencer.md R146). -/
def Obligations.BcmDisplayDuration : Prop :=
  ∀ s : State, Inv s → NoReset s → s.phase = .startBit →
    ∀ j, j ≤ s.cfg.bcmUnit * 2 ^ s.bit.toNat + 2 →
      ∃ t, run j s = .next t ∧
        (t.port.oeN = false ↔ 2 ≤ j ∧ j ≤ s.cfg.bcmUnit * 2 ^ s.bit.toNat + 1)

/-- A running BCM regime never reaches `IDLE`: only reset ends it (44_bcm_sequencer.md R148). -/
def Obligations.BcmRegimeNeverStops : Prop :=
  ∀ s t : State, Inv s → s.input.rst = false → s.cfg.regime = .bcm → s.phase ≠ .idle →
    step s = .next t → t.phase ≠ .idle ∧ t.cfg = s.cfg

/-! ## The frame boundary and the packer -/

/-- `PACK` writes the byte `image(l, k, i)` at its offset of the bank not being read, for every line, plane and
position, keeps every other byte of both banks, flips `rd_bank`, and changes nothing else (41_packer.md R100);
and, bit by bit, what that byte is. In RGB format bits 0 to 5 are the plane's bit of red, green and blue of the
upper, then of the lower half line, and bits 7:6 are 0; in mono format the byte is the framebuffer's, reversed
under `BITREV`; the panel `p` of the chain sits where the wiring puts it (41_packer.md R102 to R104;
30_encoding.md R63, R64). The bytes it reads and writes exist in every legal configuration (log 14). -/
def Obligations.PackRebuildsTheOtherBank : Prop :=
  ∀ s : State, PackFits s →
    ∃ t, exec .pack s = .next t ∧ t.rdBank = !s.rdBank ∧
      (∀ l k i, l < s.cfg.nLines → k < s.cfg.nBits → i < s.cfg.rowLen →
        (t.bank (!s.rdBank)).read ((l * s.cfg.nBits + k) * s.cfg.rowLen + i) = image s.cfg s.fb l k i) ∧
      (∀ x, s.cfg.nLines * s.cfg.nBits * s.cfg.rowLen ≤ x →
        (t.bank (!s.rdBank)).read x = (s.bank (!s.rdBank)).read x) ∧
      t.bank s.rdBank = s.bank s.rdBank ∧
      { t with rdBank := s.rdBank, bpb0 := s.bpb0, bpb1 := s.bpb1 } = s ∧
      ∀ l k i, l < s.cfg.nLines → k < s.cfg.nBits → i < s.cfg.rowLen →
        let c := s.cfg
        let byte := (t.bank (!s.rdBank)).read ((l * c.nBits + k) * c.rowLen + i)
        let column := fun p => if c.wiring = .vertical then p / c.rows else p % c.cols
        let row := fun p => if c.wiring = .vertical then p % c.rows else p / c.cols
        match c.bpp with
        | .rgb =>
          let p := i / c.panelW
          let x := column p * c.panelW + i % c.panelW
          let y1 := row p * c.panelH + l
          let wire := fun y ch => (s.fb.read (3 * (y * c.xres + x) + ch)).getLsbD (8 - c.nBits + k)
          byte.getLsbD 0 = wire y1 0 ∧ byte.getLsbD 1 = wire y1 1 ∧ byte.getLsbD 2 = wire y1 2 ∧
          byte.getLsbD 3 = wire (y1 + c.nLines) 0 ∧ byte.getLsbD 4 = wire (y1 + c.nLines) 1 ∧
          byte.getLsbD 5 = wire (y1 + c.nLines) 2 ∧ byte.getLsbD 6 = false ∧ byte.getLsbD 7 = false
        | .mono =>
          let bpr := c.panelW / 8
          let ppb := c.panelH / c.nLines * bpr
          let p := i / ppb
          let y := row p * c.panelH + i % ppb / bpr * c.nLines + l
          let xb := column p * bpr + i % bpr
          ∀ j, j < 8 → byte.getLsbD j =
            (s.fb.read (y * (c.xres / 8) + xb)).getLsbD (if c.bitrev = true then 7 - j else j)

/-- `PRIME` and `VSYNC` do what `PACK` does, raise `VSYNC`, and enter the regime's first phase; `PRIME` also
starts the regime's timer (45_vsync_controller.md R151, R152). -/
def Obligations.FrameBoundary : Prop :=
  ∀ s : State, PackFits s →
    ∃ t, exec .pack s = .next t ∧
      exec .prime s = .next
        (match s.cfg.regime with
        | .bcm => { t.raise .vsync with tBcm := Channel.started s.cnt 0, phase := .waitBit }
        | .line =>
          { t.raise .vsync with
            tLine := Channel.started s.cnt (BitVec.ofNat 32 s.cfg.linePeriod), phase := .lIdle }) ∧
      exec .vsync s = .next
        { t.raise .vsync with phase := match s.cfg.regime with | .bcm => .waitBit | .line => .lIdle }

/-- Under a legal configuration every byte `PACK` reads and writes exists, so that it never faults (20_memory.md
R44, 41_packer.md R100, R101). -/
def Obligations.LegalConfigurationNeverFaultsPack : Prop :=
  ∀ s : State, s.cfg.Legal s.params → PackFits s

/-- Repacking with no framebuffer write between leaves the two banks equal on the image (41_packer.md
R105(a)). -/
def Obligations.RepackingGivesEqualBanks : Prop :=
  ∀ s t u : State, exec .pack s = .next t → exec .pack t = .next u →
    ∀ x, x < s.cfg.nLines * s.cfg.nBits * s.cfg.rowLen → u.bpb0.read x = u.bpb1.read x

/-- The round trip of the RGB format: over the planes, the weighted sum of the wire bits of a channel is its
value without the bits below the displayed ones (41_packer.md R105(d)). -/
def Obligations.RgbPlanesSumToTheChannel : Prop :=
  ∀ (c : Cfg) (fb : Memory) (l i ch : Nat), c.bpp = .rgb → 1 ≤ c.nBits → c.nBits ≤ 8 → ch < 3 →
    ((List.range c.nBits).map fun k => 2 ^ k * ((image c fb l k i).getLsbD ch).toNat).sum =
      (fb.read (pixelOff c (rgbCol c i) (rgbRow c l i) ch)).toNat / 2 ^ (8 - c.nBits) ∧
    ((List.range c.nBits).map fun k => 2 ^ k * ((image c fb l k i).getLsbD (3 + ch)).toNat).sum =
      (fb.read (pixelOff c (rgbCol c i) (rgbRow c l i + c.nLines) ch)).toNat / 2 ^ (8 - c.nBits)

/-- Uniform frames: an all-ones frame packs to `0x3F` in RGB format and `0xFF` in mono format, with either bit
order, and an all-zero frame to 0 (41_packer.md R105(e)). -/
def Obligations.UniformFramesPackUniformly : Prop :=
  ∀ (p : Params) (c : Cfg) (fb : Memory) (l k i : Nat), c.Legal p →
    l < c.nLines → k < c.nBits → i < c.rowLen →
    ((∀ a, a < c.fbBytes → fb.read a = 0xFF) →
      image c fb l k i = match c.bpp with | .rgb => 0x3F | .mono => 0xFF) ∧
    ((∀ a, a < c.fbBytes → fb.read a = 0) → image c fb l k i = 0)

/-- The bijection of the mono format: every framebuffer byte is shown by exactly one position of exactly one
line (41_packer.md R105(c)). -/
def Obligations.MonoPackingIsABijection : Prop :=
  ∀ (p : Params) (c : Cfg), c.Legal p → c.bpp = .mono →
    (∀ l i, l < c.nLines → i < c.rowLen → monoOff c l i < c.fbBytes) ∧
    ∀ a, a < c.fbBytes → ∃! li : Nat × Nat, li.1 < c.nLines ∧ li.2 < c.rowLen ∧ monoOff c li.1 li.2 = a

/-- The bijection of the RGB format: every framebuffer byte is shown by exactly one line, position, half and
channel (41_packer.md R105(b)). -/
def Obligations.RgbPackingIsABijection : Prop :=
  ∀ (p : Params) (c : Cfg), c.Legal p → c.bpp = .rgb →
    ∀ a, a < c.fbBytes →
      ∃! q : Nat × Nat × Bool × Nat, q.1 < c.nLines ∧ q.2.1 < c.rowLen ∧ q.2.2.2 < 3 ∧
        pixelOff c (rgbCol c q.2.1) (rgbRow c q.1 q.2.1 + (if q.2.2.1 = true then c.nLines else 0)) q.2.2.2 = a

/-! ## The LINE regime and the stop sequence -/

/-- The handlers of `L_IDLE`, by themselves (45_vsync_controller.md R153 to R157): the timers silenced and the
panel blanked by a stop request, a completion and an on-expiry consumed, a period starting a transfer or, the
shifter being busy, skipped. -/
def Obligations.LineHandlers : Prop :=
  ∀ s : State,
    exec .lStopReq s = .next
      { s with stopReq := false, tLine := s.tLine.silenced, tOn := s.tOn.silenced,
               port := { s.port with oeN := true }, stopCnt := BitVec.ofNat 32 s.cfg.stopTimeout,
               phase := .lStopWait } ∧
    exec .lDone s = .next { s with evDone := false, phase := .lBlank } ∧
    exec .onExpire s = .next
      { s with tOn := s.tOn.consumed, port := { s.port with oeN := true }, phase := .lIdle } ∧
    exec .lineTick s = .next
      (if s.shPhase = .idle then
        { s.shifting s.rdBank s.scan 0 with
          tLine := s.tLine.consumed, xferLine := s.scan,
          scan := BitVec.ofNat 3 ((s.scan.toNat + 1) % s.cfg.nLines),
          phase := if (s.scan.toNat + 1) % s.cfg.nLines = 0 then .vsync else .lIdle }
      else { s with tLine := s.tLine.consumed, phase := .lIdle }) ∧
    exec .lNop s = .next s

/-- `L_IDLE` runs exactly one handler: a stop request before a completion before an on-expiry before a period
(45_vsync_controller.md R153). -/
def Obligations.LineIdlePriority : Prop :=
  ∀ s : State,
    (∃ t, exec .lIdle s = .next t) ∧
    exec .lIdle s =
      if s.stopReq = true then exec .lStopReq s
      else if s.evDone = true then exec .lDone s
      else if s.tOn.ev = true then exec .onExpire s
      else if s.tLine.ev = true then exec .lineTick s
      else exec .lNop s

/-- The latch sequence of the LINE regime, by itself phase for phase (45_vsync_controller.md R158 to R163);
`ON_TIME` is `LINE_PERIOD * brightness div 255`. -/
def Obligations.LineLatchPhases : Prop :=
  ∀ s : State,
    exec .lBlank s = .next { s with port := { s.port with oeN := true }, phase := .lLatOn } ∧
    exec .lLatOn s = .next
      { s with port := { s.port with lat := true }, dly := BitVec.ofNat 16 s.cfg.latchHold,
               tOn := Channel.started s.cnt
                 (BitVec.ofNat 32 (s.cfg.linePeriod * s.brightness.toNat / 255)),
               phase := .lLatHold } ∧
    exec .lLatHold s = .next
      (if s.dly = 0 then { s with phase := .lLatOff }
       else { s with dly := s.dly - 1, phase := .lLatHold }) ∧
    exec .lLatOff s = .next { s with port := { s.port with lat := false }, phase := .lSetLine } ∧
    exec .lSetLine s = .next { s with port := { s.port with addr := s.xferLine }, phase := .lUnblank } ∧
    exec .lUnblank s = .next
      (if s.tOn.ev = true then { s with tOn := s.tOn.consumed, phase := .lIdle }
       else { s with port := { s.port with oeN := false }, phase := .lIdle })

/-- The stop sequence, by itself: the bounded wait, its timeout, and the safe state (45_vsync_controller.md R164,
R165; 60_exceptions.md R183). That a timeout writes `LAT`, `OE_N` and `ADDR` with the values they hold is the
model's reading (log 27). -/
def Obligations.StopPhases : Prop :=
  ∀ s : State,
    exec .lStopWait s = .next
      (if s.shPhase = .idle then { s with phase := .lStopSafe }
       else if s.stopCnt = 0 then { s.aborted.raise .stopTimeout with phase := .lStopSafe }
       else { s with stopCnt := s.stopCnt - 1, phase := .lStopWait }) ∧
    exec .lStopSafe s = .next { s with port := Port.safe, evDone := false, phase := .idle }

/-- From `L_DONE` to the first lit port value, whatever the host does: the phases follow the latch sequence, the
panel is blank from the second tick on, and `LATCH_HOLD + 7` ticks after `L_DONE` the port shows the transferred
line, lit exactly where the on-time that `L_LAT_ON` took is longer than `LATCH_HOLD + 4` ticks
(45_vsync_controller.md R163, R168; 70_reset_and_hazards.md R214). -/
def Obligations.LineLatchSchedule : Prop :=
  ∀ s : State, Inv s → NoReset s → s.phase = .lIdle → s.stopReq = false → s.evDone = true →
    (∀ j, j ≤ s.cfg.latchHold + 7 → ∃ t, run j s = .next t ∧ t.phase = s.cfg.latchPhase j ∧
      (2 ≤ j → j ≤ s.cfg.latchHold + 6 → t.port.oeN = true)) ∧
    ∃ u t, run 2 s = .next u ∧ run (s.cfg.latchHold + 7) s = .next t ∧ t.port.addr = s.xferLine ∧
      t.port.lat = false ∧ (t.port.oeN = false ↔ s.cfg.latchHold + 4 < u.onTime)

/-- The stop bound: once a stop request is visible, the machine is in `IDLE` with the port safe within
`LATCH_HOLD + STOP_TIMEOUT + 9` ticks, whatever the host and the transfer hardware do (45_vsync_controller.md
R165). -/
def Obligations.StopReachesIdle : Prop :=
  ∀ s : State, Inv s → NoReset s → s.stopReq = true →
    ∃ n t, n ≤ s.cfg.latchHold + s.cfg.stopTimeout + 9 ∧ run n s = .next t ∧ t.phase = .idle ∧
      t.port = Port.safe

/-! ## The shifter and the line multiplexer -/

/-- What the controller asks of the shifter, and its stall, by themselves (42_shifter.md R110, R111, R116, R117);
`LINE_SELECT` writes the line's binary code and no other field (43_line_mux.md R120). That `SH_ABORT`
writes the other three fields of the port with the values they hold is the model's reading (log 27). -/
def Obligations.ShifterControlAndLineSelect : Prop :=
  ∀ (s : State) (bank : Bool) (line plane : Index3),
    exec (.shStart bank line plane) s = .next (s.shifting bank line plane) ∧
    exec .shAbort s = .next s.aborted ∧
    exec .shIdle s = .next s ∧
    exec .shStall s = .next s ∧
    exec (.lineSelect line) s = .next { s with port := { s.port with addr := line } }

/-- The shifter's own phases, by themselves: the byte or the bit set on the data wires, the clock high, the clock
low and the cursor moved, the exit (42_shifter.md R112 to R115). The byte it reads exists in every legal state
(log 14). -/
def Obligations.ShifterPhases : Prop :=
  ∀ s : State,
    ((s.shLine.toNat * s.cfg.nBits + s.shPlane.toNat) * s.cfg.rowLen + s.shIdx.toNat < s.params.bpbCap →
      exec .shData s = .next
        { s with
          port := { s.port with
            data :=
              let byte := (s.bank s.shBank).read
                ((s.shLine.toNat * s.cfg.nBits + s.shPlane.toNat) * s.cfg.rowLen + s.shIdx.toNat)
              match s.cfg.bpp with
              | .rgb => byte
              | .mono => (BitVec.ofBool (byte.getLsbD s.shBit.toNat)).setWidth 8 },
          shPhase := .clkhi }) ∧
    exec .shClkhi s = .next { s with port := { s.port with clk := true }, shPhase := .clklo } ∧
    exec .shClklo s = .next
      (let low := { s with port := { s.port with clk := false } }
       if s.cfg.bpp = .mono ∧ 0 < s.shBit.toNat then { low with shBit := s.shBit - 1, shPhase := .data }
       else if s.shIdx.toNat + 1 < s.cfg.rowLen then
         { low with shBit := 7, shIdx := s.shIdx + 1, shPhase := .data }
       else { low with shBit := 7, shPhase := .exit }) ∧
    exec .shExit s = .next
      { s with port := { s.port with data := 0, clk := false }, shPhase := .idle, evDone := true }

/-- One transfer, in either regime and either format, with any stalls and no stop: the tick in which the shifter
has had `XFER_TICKS` ticks not held by a stall ends it. The shifter is then idle, `ev_done` is 1 and the wires
are back at 0, the observer has received exactly the row, first byte first and in mono format bit 7 first, and
its output latch has not changed. Without stalls, and always in the BCM regime, that is the `XFER_TICKS`-th tick
(42_shifter.md R117, R118; 20_memory.md R52). -/
def Obligations.TransferSendsTheRow : Prop :=
  ∀ (s : State) (p : Panel), TransferBegins s → p.prevClk = false →
    ∀ m, s.shifterTicks m + 1 = s.cfg.xferTicks → s.stallsAt m = false →
      ∃ q t, watch (m + 1) p s = some (q, t) ∧ t.shPhase = .idle ∧ t.evDone = true ∧
        t.port.data = 0 ∧ t.port.clk = false ∧ q.sr = p.sr ++ s.rowClocked ∧ q.ol = p.ol

/-! ## The timer -/

/-- The timer's operations by themselves (46_timer.md R170 to R174): the counter, a one-shot match, a periodic
match with its reload, `START_TIMER` and `DISARM`. -/
def Obligations.TimerOperations : Prop :=
  ∀ (s : State) (ch : Chan) (one : OneShot) (d : Word),
    exec .tmrCount s = .next { s with cnt := s.cnt + 1 } ∧
    exec (.tmrMatchOneshot one) s = .next
      (let c := s.chan (oneShotChan one)
       if c.arm = true ∧ s.cnt + 1 = c.cmp then
         s.withChan (oneShotChan one) { c with arm := false, ev := true }
       else s) ∧
    exec .tmrMatchPeriodic s = .next
      (if s.tLine.arm = true ∧ s.cnt + 1 = s.tLine.cmp then
        { s with tLine :=
          { cmp := s.tLine.cmp + BitVec.ofNat 32 s.cfg.linePeriod, arm := true, ev := true } }
       else s) ∧
    exec (.startTimer ch d) s = .next (s.withChan ch (Channel.started s.cnt d)) ∧
    exec (.disarm ch) s = .next (s.withChan ch (s.chan ch).silenced)

/-- A one-shot interval is exact, also across the wrap of the counter (46_timer.md R171, R175). In `WAIT_BIT` and
`WAIT_DIM`, with `d` ticks to go, the event is set after the `d`-th tick and not before, whatever the host does.
Tick by tick, on either channel: a channel with `d` ticks to go that is not started or disarmed in the tick has
fired and is disarmed if `d` is 1, and is otherwise as it was, with `d - 1` ticks to go. -/
def Obligations.OneShotIntervalIsExact : Prop :=
  (∀ (s : State) (d : Word), Inv s → NoReset s → s.phase = .waitBit ∨ s.phase = .waitDim →
    s.tBcm.arm = true → s.tBcm.cmp = s.cnt + d → 1 ≤ d.toNat →
    ∀ j, j ≤ d.toNat → ∃ t, run j s = .next t ∧ t.phase = s.phase ∧
      (t.tBcm.ev = true ↔ j = d.toNat) ∧ (t.tBcm.arm = true ↔ j < d.toNat)) ∧
  ∀ (s : State) (one : OneShot) (d : Word), Inv s → s.input.rst = false →
    s.phase ≠ .startDim → s.phase ≠ .startBit → s.phase ≠ .lLatOn →
    ¬ (s.phase = .lIdle ∧ s.stopReq = true) →
    (s.chan (oneShotChan one)).arm = true → (s.chan (oneShotChan one)).cmp = s.cnt + d → 1 ≤ d.toNat →
    ∃ t, step s = .next t ∧ (t.chan (oneShotChan one)).cmp = t.cnt + (d - 1) ∧
      (if d = 1 then (t.chan (oneShotChan one)).arm = false ∧ (t.chan (oneShotChan one)).ev = true
       else (t.chan (oneShotChan one)).arm = true ∧ (t.chan (oneShotChan one)).ev = false)

/-- The counter is used only relatively: moving it and every compare value by one amount moves them alike after
the tick and changes nothing else (46_timer.md R175). -/
def Obligations.CounterIsRelative : Prop :=
  ∀ (s : State) (d : Word), s.input.rst = false →
    step (s.shiftCnt d) = mapNext (State.shiftCnt d) (step s)

/-! ## Reset -/

/-- After `RESET` every piece of state has its value of 10_state.md R27, in every state it is applied in; nothing
is said of `cnt`, the compare values, `FB` and the banks, which that rule leaves unspecified. -/
def Obligations.ResetValues : Prop :=
  ∀ s : State, ∃ t, exec .reset s = .next t ∧
    t.phase = .idle ∧ t.line = 0 ∧ t.bit = 0 ∧ t.scan = 0 ∧ t.xferLine = 0 ∧ t.rdBank = false ∧ t.dly = 0 ∧
    t.stopCnt = 0 ∧ t.stopReq = false ∧
    t.shPhase = .idle ∧ t.shBank = false ∧ t.shLine = 0 ∧ t.shPlane = 0 ∧ t.shIdx = 0 ∧ t.shBit = 7 ∧
    t.evDone = false ∧
    t.tBcm.Quiet ∧ t.tLine.Quiet ∧ t.tOn.Quiet ∧
    t.port.word = 0x0400 ∧ t.sticky.word = 0 ∧ t.irqEn.word = 0 ∧ t.brightness = 255 ∧
    t.stg =
      { xres := 32, yres := 16, bpp := 1, refresh := 60, panelW := 32, panelH := 16, nLines := 4, nBits := 1,
        flags := 0b100, bcmUnit := 16, dimTicks := 4, latchHold := 1, stopTimeout := 4096 } ∧
    t.cfg =
      { regime := .line, wiring := .vertical, bitrev := false, bpp := .mono, nLines := 4, nBits := 1,
        panelW := 32, panelH := 16, xres := 32, yres := 16, cols := 1, rows := 1, nPanels := 1, rowLen := 16,
        fbBytes := 64, bpbBytes := 64, bcmUnit := 16, dimTicks := 4, latchHold := 1, stopTimeout := 4096,
        refresh := 60, xferTicks := 385, minPeriod := 396,
        linePeriod := max 396 (s.params.tickHz / 240) }

/-! ## Invariants and whole-machine rules -/

/-- The invariant of the machine holds right after reset; the parameters, the counter, the compare values and the
memories of that state are the model's choice (logs 1 and 4 to 7). -/
def Obligations.InvariantAtReset : Prop := Inv State.reset

/-- Every step, a reset step included, keeps the invariant: the configuration legal, the cursors in range, the
port in the states the phases give it, the live channels as 46_timer.md R178 says, the memories in canonical
form. -/
def Obligations.InvariantKept : Prop :=
  ∀ s t : State, Inv s → step s = .next t → Inv t

/-- Every step from a state with the invariant answers a next state: the tick function is total there
(60_exceptions.md R189, 70_reset_and_hazards.md R202, R213), and the two faults, which are the model's own (log
14), are never met. -/
def Obligations.TickIsTotal : Prop :=
  ∀ s : State, Inv s → ∃ t, step s = .next t

/-- The idle invariant (70_reset_and_hazards.md R205). -/
def Obligations.IdleIsQuiet : Prop :=
  ∀ s : State, Inv s → s.phase = .idle →
    s.port.word = 0x0400 ∧ s.shPhase = .idle ∧
    s.tBcm.arm = false ∧ s.tLine.arm = false ∧ s.tOn.arm = false ∧
    s.tBcm.ev = false ∧ s.tLine.ev = false ∧ s.tOn.ev = false ∧ s.evDone = false ∧ s.stopReq = false

/-- The latch is asserted only while the panel is blank, which it has been for a tick before `LAT` rises and stays
for two port values after it falls (70_reset_and_hazards.md R206). -/
def Obligations.LatchOnlyWhileBlank : Prop :=
  ∀ s t : State, Inv s → step s = .next t →
    (s.port.lat = true → s.port.oeN = true) ∧
    (s.port.lat = false → t.port.lat = true → s.port.oeN = true ∧ t.port.oeN = true) ∧
    (s.port.lat = true → t.port.lat = false →
      t.port.oeN = true ∧ ∀ u, step t = .next u → u.port.oeN = true)

/-- In the BCM regime the shifter and the data wires are active only while the panel is blank
(70_reset_and_hazards.md R207). -/
def Obligations.BcmShiftsOnlyWhileBlank : Prop :=
  ∀ s : State, Inv s → s.cfg.regime = .bcm →
    s.port.clk = true ∨ s.port.data ≠ 0 ∨ s.shPhase ≠ .idle → s.port.oeN = true

/-- The address wires change only while the panel is blank, the step into a reset tick apart
(70_reset_and_hazards.md R208). -/
def Obligations.AddressChangesOnlyWhileBlank : Prop :=
  ∀ s t : State, Inv s → s.input.rst = false → step s = .next t → t.port.addr ≠ s.port.addr →
    s.port.oeN = true ∧ t.port.oeN = true

/-- The address is in range while the machine runs and 0 while it is stopped (70_reset_and_hazards.md R210). -/
def Obligations.AddressInRange : Prop :=
  ∀ s : State, Inv s →
    (s.phase ≠ .idle → s.port.addr.toNat < s.cfg.nLines) ∧ (s.phase = .idle → s.port.addr = 0)

/-- The bank a tick packs is not the bank the shifter reads, and no other tick writes a bank (20_memory.md R56,
10_state.md R24, 70_reset_and_hazards.md R212). -/
def Obligations.BankDiscipline : Prop :=
  ∀ s t : State, Inv s → s.input.rst = false → step s = .next t →
    (s.phase = .prime ∨ s.phase = .vsync →
      (s.shPhase = .idle ∨ s.shBank = s.rdBank) ∧ t.bank s.rdBank = s.bank s.rdBank ∧ t.rdBank = !s.rdBank) ∧
    (s.phase ≠ .prime → s.phase ≠ .vsync →
      t.bpb0 = s.bpb0 ∧ t.bpb1 = s.bpb1 ∧ t.rdBank = s.rdBank)

/-- The active configuration changes only by an accepted `MODESET` in `IDLE`, and then to what validation gives;
the framebuffer changes only by a host write into its window, and then in that one byte (20_memory.md R55;
10_state.md R22, R24). -/
def Obligations.OnlyTheHostWritesConfigurationAndFramebuffer : Prop :=
  ∀ s t : State, s.input.rst = false → step s = .next t →
    (t.cfg ≠ s.cfg →
      s.phase = .idle ∧ s.input.hostOp = some (HostWord.write 0x00 3) ∧
      t.cfg = validate s.params s.stg ∧ t.cfg.fits s.params = true) ∧
    (t.fb ≠ s.fb →
      ∃ addr v : Word, InFbWindow s.params addr ∧ s.input.hostOp = some (HostWord.write addr v) ∧
        ∀ x, t.fb.read x = if x = addr.toNat - 0x10000 then v.extractLsb' 0 8 else s.fb.read x)

/-- The framebuffer reaches the rest of the machine only through `PACK`: in any other tick without a host access
to its window, the contents of `FB` change nothing (20_memory.md R51). -/
def Obligations.FramebufferActsOnlyThroughPack : Prop :=
  ∀ (s : State) (m : Memory), s.input.rst = false → s.phase ≠ .prime → s.phase ≠ .vsync →
    (∀ w, s.input.hostOp = some w → ¬ InFbWindow s.params w.addr) →
    step { s with fb := m } = mapNext (fun t => { t with fb := m }) (step s)

/-- The staged registers reach the machine only through `MODESET`: in any other tick without a host access to
them, their contents change nothing (20_memory.md R55). -/
def Obligations.StagedRegistersActOnlyThroughModeset : Prop :=
  ∀ (s : State) (g : Stg), s.input.rst = false →
    (∀ w, s.input.hostOp = some w →
      w ≠ HostWord.write 0x00 3 ∧ ¬ (0x20 ≤ w.addr.toNat ∧ w.addr.toNat ≤ 0x50)) →
    step { s with stg := g } = mapNext (fun t => { t with stg := g }) (step s)

/-- `IDLE` is left only by `START` or kept: the next phase after `IDLE` is `PRIME` exactly where the tick carries
`START`, and `IDLE` otherwise (44_bcm_sequencer.md R130, 70_reset_and_hazards.md R201). -/
def Obligations.IdleIsLeftOnlyByStart : Prop :=
  ∀ s t : State, s.phase = .idle → s.input.rst = false → step s = .next t →
    t.phase = if s.input.hostOp = some (HostWord.write 0x00 1) then .prime else .idle

end
end

