-- ==== Sys2Proof/Laws/Memory.lean ====
section
/-! SUPPORT. The laws of a byte memory: what a read after a write gives, and that a write keeps the canonical
form and the capacity. -/

namespace Sys2Proof.Machine

/-! ## Cells -/

theorem lookupCell_insertCell (cells : List Host.Cell) (a x : Nat) (b : Byte) :
    lookupCell (insertCell cells a b) x = if x = a then some b else lookupCell cells x := by
  induction cells with
  | nil => simp [insertCell, lookupCell]
  | cons c r ih =>
    obtain ⟨a', b'⟩ := c
    unfold insertCell
    split
    · simp [lookupCell]
    · split
      · subst_vars
        by_cases h : x = a' <;> simp [lookupCell, h]
      · by_cases h : x = a'
        · subst h
          have : ¬ x = a := fun e => by simp_all
          simp [lookupCell, this]
        · simp [lookupCell, h, ih]

theorem lookupCell_eraseCell (cells : List Host.Cell) (a x : Nat) :
    lookupCell (eraseCell cells a) x = if x = a then none else lookupCell cells x := by
  induction cells with
  | nil => simp [eraseCell, lookupCell]
  | cons c r ih =>
    obtain ⟨a', b'⟩ := c
    by_cases h : a = a'
    · subst h
      by_cases hx : x = a
      · subst hx
        simpa [eraseCell] using ih
      · simp [eraseCell, lookupCell, ih, hx]
    · by_cases hx : x = a'
      · subst hx
        have : ¬ x = a := fun e => h e.symm
        simp [eraseCell, lookupCell, h, this]
      · simp [eraseCell, lookupCell, h, hx, ih]

theorem forall_mem_eraseCell {P : Host.Cell → Prop} {cells : List Host.Cell} {a : Nat}
    (h : ∀ c ∈ cells, P c) : ∀ c ∈ eraseCell cells a, P c := by
  induction cells with
  | nil => simp [eraseCell]
  | cons c r ih =>
    obtain ⟨a', b'⟩ := c
    have hr : ∀ c ∈ r, P c := fun c hc => h c (List.mem_cons_of_mem _ hc)
    unfold eraseCell
    split
    · exact ih hr
    · intro c hc
      rcases List.mem_cons.mp hc with rfl | hc
      · exact h _ List.mem_cons_self
      · exact ih hr c hc

theorem forall_mem_insertCell {P : Host.Cell → Prop} {cells : List Host.Cell} {a : Nat} {b : Byte}
    (h : ∀ c ∈ cells, P c) (hab : P (a, b)) : ∀ c ∈ insertCell cells a b, P c := by
  induction cells with
  | nil => simpa [insertCell] using hab
  | cons c r ih =>
    obtain ⟨a', b'⟩ := c
    have hr : ∀ c ∈ r, P c := fun c hc => h c (List.mem_cons_of_mem _ hc)
    unfold insertCell
    split
    · intro c hc
      rcases List.mem_cons.mp hc with rfl | hc
      · exact hab
      · exact h c hc
    · split
      · intro c hc
        rcases List.mem_cons.mp hc with rfl | hc
        · exact hab
        · exact hr c hc
      · intro c hc
        rcases List.mem_cons.mp hc with rfl | hc
        · exact h _ List.mem_cons_self
        · exact ih hr c hc

theorem risingCells_cons (c : Host.Cell) (r : List Host.Cell) :
    risingCells (c :: r) = true ↔ (∀ d ∈ r, c.1 < d.1) ∧ risingCells r = true := by
  induction r generalizing c with
  | nil => simp [risingCells]
  | cons d r ih =>
    obtain ⟨a, b⟩ := c
    obtain ⟨a', b'⟩ := d
    simp only [risingCells, Bool.and_eq_true, decide_eq_true_eq, List.mem_cons, forall_eq_or_imp]
    constructor
    · rintro ⟨hlt, hr⟩
      exact ⟨⟨hlt, fun d hd => Nat.lt_trans hlt (((ih (a', b')).mp hr).1 d hd)⟩, hr⟩
    · rintro ⟨⟨hlt, -⟩, hr⟩
      exact ⟨hlt, hr⟩

theorem risingCells_eraseCell {cells : List Host.Cell} (a : Nat) (h : risingCells cells = true) :
    risingCells (eraseCell cells a) = true := by
  induction cells with
  | nil => rfl
  | cons c r ih =>
    obtain ⟨a', b'⟩ := c
    obtain ⟨hlt, hr⟩ := (risingCells_cons _ _).mp h
    unfold eraseCell
    split
    · exact ih hr
    · exact (risingCells_cons _ _).mpr ⟨forall_mem_eraseCell hlt, ih hr⟩

theorem risingCells_insertCell {cells : List Host.Cell} (a : Nat) (b : Byte) (h : risingCells cells = true) :
    risingCells (insertCell cells a b) = true := by
  induction cells with
  | nil => rfl
  | cons c r ih =>
    obtain ⟨a', b'⟩ := c
    obtain ⟨hlt, hr⟩ := (risingCells_cons _ _).mp h
    unfold insertCell
    split
    · refine (risingCells_cons _ _).mpr ⟨?_, h⟩
      intro d hd
      rcases List.mem_cons.mp hd with rfl | hd
      · assumption
      · exact Nat.lt_trans ‹a < a'› (hlt d hd)
    · split
      · subst_vars
        exact (risingCells_cons _ _).mpr ⟨hlt, hr⟩
      · refine (risingCells_cons _ _).mpr ⟨forall_mem_insertCell hlt ?_, ih hr⟩
        show a' < a
        omega

/-! ## Memories -/

/-- Everything a write does, as reads see it. -/
theorem Memory.read_write (m : Memory) (a x : Nat) (b : Byte) :
    (m.write a b).read x = if x = a then b else m.read x := by
  unfold Memory.write
  split
  · rename_i hb
    unfold Memory.read
    dsimp only
    rw [lookupCell_eraseCell]
    by_cases hx : x = a
    · subst hx
      simpa [Memory.unlisted] using hb.symm
    · simp [hx, Memory.unlisted]
  · unfold Memory.read
    dsimp only
    rw [lookupCell_insertCell]
    by_cases hx : x = a <;> simp [hx, Memory.unlisted]

theorem Memory.read_write_same (m : Memory) (a : Nat) (b : Byte) : (m.write a b).read a = b := by
  simp [Memory.read_write]

theorem Memory.read_write_other (m : Memory) {a x : Nat} (b : Byte) (h : x ≠ a) :
    (m.write a b).read x = m.read x := by simp [Memory.read_write, h]

@[simp] theorem Memory.fill_write (m : Memory) (a : Nat) (b : Byte) : (m.write a b).fill = m.fill := by
  unfold Memory.write
  split <;> rfl

theorem Memory.wf_iff (m : Memory) :
    m.wf = true ↔ risingCells m.cells = true ∧ ∀ c ∈ m.cells, c.2 ≠ m.unlisted c.1 := by
  simp [Memory.wf]

/-- A write keeps the canonical form. -/
theorem Memory.wf_write {m : Memory} (a : Nat) (b : Byte) (h : m.wf = true) : (m.write a b).wf = true := by
  obtain ⟨hr, hu⟩ := m.wf_iff.mp h
  unfold Memory.write
  split
  · exact (Memory.wf_iff _).mpr ⟨risingCells_eraseCell a hr, forall_mem_eraseCell hu⟩
  · rename_i hb
    exact (Memory.wf_iff _).mpr ⟨risingCells_insertCell a b hr, forall_mem_insertCell hu hb⟩

/-- A write below a capacity keeps the memory within it. -/
theorem Memory.within_write {m : Memory} {cap a : Nat} (b : Byte) (h : m.within cap = true) (ha : a < cap) :
    (m.write a b).within cap = true := by
  have h' : ∀ c ∈ m.cells, c.1 < cap := by simpa [Memory.within] using h
  unfold Memory.write
  split
  · simpa [Memory.within] using forall_mem_eraseCell (a := a) h'
  · simpa [Memory.within] using forall_mem_insertCell (b := b) h' ha

/-- An empty memory is in canonical form, whatever it reads as. -/
theorem Memory.wf_empty (f : Fill) : Memory.wf { fill := f, cells := [] } = true := rfl

/-! ## The packer's loops keep the canonical form -/

theorem wf_packRow (c : Cfg) (fb : Memory) (l k n : Nat) {m : Memory} (h : m.wf = true) :
    (packRow c fb l k n m).wf = true := by
  induction n with
  | zero => exact h
  | succ n ih => exact Memory.wf_write _ _ ih

theorem wf_packPlanes (c : Cfg) (fb : Memory) (l n : Nat) {m : Memory} (h : m.wf = true) :
    (packPlanes c fb l n m).wf = true := by
  induction n with
  | zero => exact h
  | succ n ih => exact wf_packRow _ _ _ _ _ ih

theorem wf_packLines (c : Cfg) (fb : Memory) (n : Nat) {m : Memory} (h : m.wf = true) :
    (packLines c fb n m).wf = true := by
  induction n with
  | zero => exact h
  | succ n ih => exact wf_packPlanes _ _ _ _ ih

/-- `PACK` leaves the bank it rebuilds in canonical form. -/
theorem wf_packBank (c : Cfg) (fb : Memory) {old : Memory} (h : old.wf = true) :
    (packBank c fb old).wf = true := wf_packLines _ _ _ h

/-! ## What the packer's loops write, and what they leave -/

theorem read_packRow (c : Cfg) (fb : Memory) (l k n : Nat) (m : Memory) (x : Nat) :
    (packRow c fb l k n m).read x =
      if bpbOff c l k 0 ≤ x ∧ x < bpbOff c l k 0 + n then image c fb l k (x - bpbOff c l k 0)
      else m.read x := by
  induction n with
  | zero =>
    have : ¬ (bpbOff c l k 0 ≤ x ∧ x < bpbOff c l k 0 + 0) := by omega
    rw [if_neg this]
    rfl
  | succ n ih =>
    have hoff : bpbOff c l k n = bpbOff c l k 0 + n := by simp [bpbOff]
    show ((packRow c fb l k n m).write (bpbOff c l k n) (image c fb l k n)).read x = _
    rw [Memory.read_write, ih, hoff]
    by_cases hx : x = bpbOff c l k 0 + n
    · subst hx
      simp
    · by_cases h : bpbOff c l k 0 ≤ x ∧ x < bpbOff c l k 0 + n
      · rw [if_neg hx, if_pos h, if_pos (by omega)]
      · rw [if_neg hx, if_neg h, if_neg (by omega)]

end Sys2Proof.Machine
end

