-- ==== Sys2Proof/Laws/State.lean ====
section
/-! SUPPORT. One lemma per field per update: what `commit`, `Effect.join`, `State.beginTick`, `State.resetWith`
and `State.afterReset` leave in each field, and what each settling function does. -/

namespace Sys2Proof.Machine

/-! ## `commit` -/

@[simp] theorem commit_phase (s : State) (e : Effect) : (commit s e).phase = e.phase.getD s.phase := rfl

@[simp] theorem commit_line (s : State) (e : Effect) : (commit s e).line = e.line.getD s.line := rfl

@[simp] theorem commit_bit (s : State) (e : Effect) : (commit s e).bit = e.bit.getD s.bit := rfl

@[simp] theorem commit_scan (s : State) (e : Effect) : (commit s e).scan = e.scan.getD s.scan := rfl

@[simp] theorem commit_xferLine (s : State) (e : Effect) : (commit s e).xferLine = e.xferLine.getD s.xferLine := rfl

@[simp] theorem commit_rdBank (s : State) (e : Effect) : (commit s e).rdBank = e.rdBank.getD s.rdBank := rfl

@[simp] theorem commit_dly (s : State) (e : Effect) : (commit s e).dly = e.dly.getD s.dly := rfl

@[simp] theorem commit_stopCnt (s : State) (e : Effect) : (commit s e).stopCnt = e.stopCnt.getD s.stopCnt := rfl

@[simp] theorem commit_stopReq (s : State) (e : Effect) : (commit s e).stopReq = e.stopReq.getD s.stopReq := rfl

@[simp] theorem commit_cnt (s : State) (e : Effect) : (commit s e).cnt = e.cnt.getD s.cnt := rfl

@[simp] theorem commit_irqEn (s : State) (e : Effect) : (commit s e).irqEn = e.irqEn.getD s.irqEn := rfl

@[simp] theorem commit_brightness (s : State) (e : Effect) : (commit s e).brightness = e.brightness.getD s.brightness := rfl

@[simp] theorem commit_stg (s : State) (e : Effect) : (commit s e).stg = e.stg.getD s.stg := rfl

@[simp] theorem commit_cfg (s : State) (e : Effect) : (commit s e).cfg = e.cfg.getD s.cfg := rfl

@[simp] theorem commit_fb (s : State) (e : Effect) : (commit s e).fb = e.fb.getD s.fb := rfl

@[simp] theorem commit_rdData (s : State) (e : Effect) : (commit s e).rdData = e.rdData.getD s.rdData := rfl

@[simp] theorem commit_params (s : State) (e : Effect) : (commit s e).params = s.params := rfl

@[simp] theorem commit_inputs (s : State) (e : Effect) : (commit s e).inputs = s.inputs := rfl

@[simp] theorem commit_draws (s : State) (e : Effect) : (commit s e).draws = s.draws := rfl

@[simp] theorem commit_shPhase (s : State) (e : Effect) :
    (commit s e).shPhase = settleShPhase s.shPhase e := rfl

@[simp] theorem commit_shBank (s : State) (e : Effect) :
    (commit s e).shBank = (e.shStart.map fun o => o.1).getD s.shBank := rfl

@[simp] theorem commit_shLine (s : State) (e : Effect) :
    (commit s e).shLine = (e.shStart.map fun o => o.2.1).getD s.shLine := rfl

@[simp] theorem commit_shPlane (s : State) (e : Effect) :
    (commit s e).shPlane = (e.shStart.map fun o => o.2.2).getD s.shPlane := rfl

@[simp] theorem commit_shIdx (s : State) (e : Effect) :
    (commit s e).shIdx = settleShIdx s.shIdx e := rfl

@[simp] theorem commit_shBit (s : State) (e : Effect) :
    (commit s e).shBit = settleShBit s.shBit e := rfl

@[simp] theorem commit_evDone (s : State) (e : Effect) :
    (commit s e).evDone = settleDone s.evDone e := rfl

@[simp] theorem commit_tBcm (s : State) (e : Effect) :
    (commit s e).tBcm = settleChan s.cnt s.tBcm e.tBcm := rfl

@[simp] theorem commit_tLine (s : State) (e : Effect) :
    (commit s e).tLine = settleChan s.cnt s.tLine e.tLine := rfl

@[simp] theorem commit_tOn (s : State) (e : Effect) :
    (commit s e).tOn = settleChan s.cnt s.tOn e.tOn := rfl

@[simp] theorem commit_port (s : State) (e : Effect) :
    (commit s e).port = settlePort s.port e := rfl

@[simp] theorem commit_sticky (s : State) (e : Effect) :
    (commit s e).sticky = settleSticky s.sticky e.raised e.cleared := rfl

@[simp] theorem commit_bpb0 (s : State) (e : Effect) :
    (commit s e).bpb0 = settleBank false s.bpb0 e := rfl

@[simp] theorem commit_bpb1 (s : State) (e : Effect) :
    (commit s e).bpb1 = settleBank true s.bpb1 e := rfl

/-- Nothing written, nothing changed. -/
@[simp] theorem commit_empty (s : State) : commit s {} = s := rfl

/-! ## `Effect.join` -/

@[simp] theorem Effect.join_phase (a b : Effect) : (a.join b).phase = a.phase.or b.phase := rfl

@[simp] theorem Effect.join_line (a b : Effect) : (a.join b).line = a.line.or b.line := rfl

@[simp] theorem Effect.join_bit (a b : Effect) : (a.join b).bit = a.bit.or b.bit := rfl

@[simp] theorem Effect.join_scan (a b : Effect) : (a.join b).scan = a.scan.or b.scan := rfl

@[simp] theorem Effect.join_xferLine (a b : Effect) : (a.join b).xferLine = a.xferLine.or b.xferLine := rfl

@[simp] theorem Effect.join_rdBank (a b : Effect) : (a.join b).rdBank = a.rdBank.or b.rdBank := rfl

@[simp] theorem Effect.join_dly (a b : Effect) : (a.join b).dly = a.dly.or b.dly := rfl

@[simp] theorem Effect.join_stopCnt (a b : Effect) : (a.join b).stopCnt = a.stopCnt.or b.stopCnt := rfl

@[simp] theorem Effect.join_stopReq (a b : Effect) : (a.join b).stopReq = a.stopReq.or b.stopReq := rfl

@[simp] theorem Effect.join_data (a b : Effect) : (a.join b).data = a.data.or b.data := rfl

@[simp] theorem Effect.join_clk (a b : Effect) : (a.join b).clk = a.clk.or b.clk := rfl

@[simp] theorem Effect.join_lat (a b : Effect) : (a.join b).lat = a.lat.or b.lat := rfl

@[simp] theorem Effect.join_oeN (a b : Effect) : (a.join b).oeN = a.oeN.or b.oeN := rfl

@[simp] theorem Effect.join_addr (a b : Effect) : (a.join b).addr = a.addr.or b.addr := rfl

@[simp] theorem Effect.join_shPhase (a b : Effect) : (a.join b).shPhase = a.shPhase.or b.shPhase := rfl

@[simp] theorem Effect.join_shIdx (a b : Effect) : (a.join b).shIdx = a.shIdx.or b.shIdx := rfl

@[simp] theorem Effect.join_shBit (a b : Effect) : (a.join b).shBit = a.shBit.or b.shBit := rfl

@[simp] theorem Effect.join_shData (a b : Effect) : (a.join b).shData = a.shData.or b.shData := rfl

@[simp] theorem Effect.join_shClk (a b : Effect) : (a.join b).shClk = a.shClk.or b.shClk := rfl

@[simp] theorem Effect.join_shStart (a b : Effect) : (a.join b).shStart = a.shStart.or b.shStart := rfl

@[simp] theorem Effect.join_cnt (a b : Effect) : (a.join b).cnt = a.cnt.or b.cnt := rfl

@[simp] theorem Effect.join_irqEn (a b : Effect) : (a.join b).irqEn = a.irqEn.or b.irqEn := rfl

@[simp] theorem Effect.join_brightness (a b : Effect) : (a.join b).brightness = a.brightness.or b.brightness := rfl

@[simp] theorem Effect.join_stg (a b : Effect) : (a.join b).stg = a.stg.or b.stg := rfl

@[simp] theorem Effect.join_cfg (a b : Effect) : (a.join b).cfg = a.cfg.or b.cfg := rfl

@[simp] theorem Effect.join_rdData (a b : Effect) : (a.join b).rdData = a.rdData.or b.rdData := rfl

@[simp] theorem Effect.join_fb (a b : Effect) : (a.join b).fb = a.fb.or b.fb := rfl

@[simp] theorem Effect.join_bank (a b : Effect) : (a.join b).bank = a.bank.or b.bank := rfl

@[simp] theorem Effect.join_shAbort (a b : Effect) : (a.join b).shAbort = (a.shAbort || b.shAbort) := rfl

@[simp] theorem Effect.join_doneSet (a b : Effect) : (a.join b).doneSet = (a.doneSet || b.doneSet) := rfl

@[simp] theorem Effect.join_doneClear (a b : Effect) : (a.join b).doneClear = (a.doneClear || b.doneClear) := rfl

@[simp] theorem Effect.join_tBcm (a b : Effect) : (a.join b).tBcm = a.tBcm.join b.tBcm := rfl

@[simp] theorem Effect.join_tLine (a b : Effect) : (a.join b).tLine = a.tLine.join b.tLine := rfl

@[simp] theorem Effect.join_tOn (a b : Effect) : (a.join b).tOn = a.tOn.join b.tOn := rfl

@[simp] theorem Effect.join_raised (a b : Effect) : (a.join b).raised = a.raised.union b.raised := rfl

@[simp] theorem Effect.join_cleared (a b : Effect) : (a.join b).cleared = a.cleared.union b.cleared := rfl

@[simp] theorem StatusBits.union_empty (a : StatusBits) : a.union {} = a := by simp [StatusBits.union]

@[simp] theorem StatusBits.empty_union (a : StatusBits) : StatusBits.union {} a = a := by simp [StatusBits.union]

@[simp] theorem ChanReq.join_empty (a : ChanReq) : a.join {} = a := by simp [ChanReq.join]

@[simp] theorem ChanReq.empty_join (a : ChanReq) : ChanReq.join {} a = a := by simp [ChanReq.join]

/-- Joining no writes changes nothing. -/
@[simp] theorem Effect.join_empty (a : Effect) : a.join {} = a := by simp [Effect.join]

/-- Joining to no writes changes nothing. -/
@[simp] theorem Effect.empty_join (a : Effect) : Effect.join {} a = a := by simp [Effect.join]

/-! ## The settling functions, once each -/

/-- A flag ends at 1 exactly where it is set, or was 1 and is not cleared. -/
@[simp] theorem settleFlag_eq (set clear old : Bool) : settleFlag set clear old = (set || (old && !clear)) := by
  cases set <;> cases clear <;> cases old <;> rfl

@[simp] theorem settleSticky_vsync (old r c : StatusBits) :
    (settleSticky old r c).vsync = (r.vsync || (old.vsync && !c.vsync)) := by simp [settleSticky]

@[simp] theorem settleSticky_errNomem (old r c : StatusBits) :
    (settleSticky old r c).errNomem = (r.errNomem || (old.errNomem && !c.errNomem)) := by simp [settleSticky]

@[simp] theorem settleSticky_stopTimeout (old r c : StatusBits) :
    (settleSticky old r c).stopTimeout = (r.stopTimeout || (old.stopTimeout && !c.stopTimeout)) := by
  simp [settleSticky]

@[simp] theorem settleSticky_errCmd (old r c : StatusBits) :
    (settleSticky old r c).errCmd = (r.errCmd || (old.errCmd && !c.errCmd)) := by simp [settleSticky]

/-- A channel nothing is asked of stays. -/
@[simp] theorem settleChan_empty (cnt : Word) (c : Channel) : settleChan cnt c {} = c := rfl

/-- A `START_TIMER` decides the channel alone. -/
@[simp] theorem settleChan_start (cnt : Word) (c : Channel) (r : ChanReq) (d : Word) :
    settleChan cnt c { r with start := some d } =
      { cmp := cnt + d, arm := decide (2 ≤ d.toNat), ev := decide (d.toNat ≤ 1) } := rfl

/-- Without a `START_TIMER`, a `DISARM` decides. -/
theorem settleChan_disarm (cnt : Word) (c : Channel) {r : ChanReq} (hs : r.start = none)
    (hd : r.disarm = true) : settleChan cnt c r = { c with arm := false, ev := false } := by
  simp [settleChan, hs, hd]

/-- Without either, a match decides. -/
theorem settleChan_hit (cnt : Word) (c : Channel) {r : ChanReq} (hs : r.start = none)
    (hd : r.disarm = false) {w : Word} {a : Bool} (hh : r.hit = some (w, a)) :
    settleChan cnt c r = { cmp := w, arm := a, ev := true } := by simp [settleChan, hs, hd, hh]

/-- Without all three, a consumer may clear the event. -/
theorem settleChan_clear (cnt : Word) (c : Channel) {r : ChanReq} (hs : r.start = none)
    (hd : r.disarm = false) (hh : r.hit = none) :
    settleChan cnt c r = { c with ev := c.ev && !r.clear } := by
  cases h : r.clear <;> simp [settleChan, hs, hd, hh, h]

@[simp] theorem settlePort_data (old : Port) (e : Effect) :
    (settlePort old e).data = e.data.getD (e.shData.getD old.data) := rfl

@[simp] theorem settlePort_clk (old : Port) (e : Effect) :
    (settlePort old e).clk = e.clk.getD (e.shClk.getD old.clk) := rfl

@[simp] theorem settlePort_lat (old : Port) (e : Effect) : (settlePort old e).lat = e.lat.getD old.lat := rfl

@[simp] theorem settlePort_oeN (old : Port) (e : Effect) : (settlePort old e).oeN = e.oeN.getD old.oeN := rfl

@[simp] theorem settlePort_addr (old : Port) (e : Effect) : (settlePort old e).addr = e.addr.getD old.addr := rfl

/-- A bank nothing rebuilds stays. -/
theorem settleBank_none (b : Bool) (old : Memory) {e : Effect} (h : e.bank = none) :
    settleBank b old e = old := by simp [settleBank, h]

/-- A rebuilt bank is the one named. -/
theorem settleBank_some (b b' : Bool) (old m : Memory) {e : Effect} (h : e.bank = some (b', m)) :
    settleBank b old e = if b = b' then m else old := by
  cases b <;> cases b' <;> simp [settleBank, h]

/-! ## Shared operations -/

/-- `raise` sets its flag and does nothing else (60_exceptions.md R180). -/
theorem commit_raise (s : State) (f : StickyFlag) :
    commit s (Effect.raise f) = { s with sticky := s.sticky.union f.bits } := by
  cases f <;> simp [commit, Effect.raise, StickyFlag.bits, StatusBits.union, settleSticky,
    settlePort, settleShPhase, settleShIdx, settleShBit, settleDone, settleBank]

/-- The port's safe state, whatever the port held (20_memory.md R48). -/
theorem settlePort_portSafe (old : Port) : settlePort old Effect.portSafe = Port.safe := rfl

@[simp] theorem Effect.onChan_bcm (r : ChanReq) : Effect.onChan .bcm r = { tBcm := r } := rfl

@[simp] theorem Effect.onChan_line (r : ChanReq) : Effect.onChan .line r = { tLine := r } := rfl

@[simp] theorem Effect.onChan_on (r : ChanReq) : Effect.onChan .on r = { tOn := r } := rfl

@[simp] theorem State.chan_bcm (s : State) : s.chan .bcm = s.tBcm := rfl

@[simp] theorem State.chan_line (s : State) : s.chan .line = s.tLine := rfl

@[simp] theorem State.chan_on (s : State) : s.chan .on = s.tOn := rfl

@[simp] theorem State.bank_false (s : State) : s.bank false = s.bpb0 := rfl

@[simp] theorem State.bank_true (s : State) : s.bank true = s.bpb1 := rfl

/-- The operations of the shared shape: their writes committed, or the fault. -/
theorem solo_ok (e : Effect) (s : State) : solo (.ok e) s = .next (commit s e) := rfl

theorem solo_error (f : Fault) (s : State) : solo (.error f) s = .fault f := rfl

/-- All that committing an operation's writes can answer. -/
theorem solo_eq_next_iff {r : Except Fault Effect} {s t : State} :
    solo r s = .next t ↔ ∃ e, r = .ok e ∧ t = commit s e := by
  cases r with
  | error f => simp [solo]
  | ok e => simp [solo, eq_comm]

/-! ## `State.beginTick` -/

@[simp] theorem State.beginTick_inputs (s : State) : s.beginTick.inputs = s.inputs.tail := rfl

@[simp] theorem State.beginTick_rdData (s : State) : s.beginTick.rdData = 0 := rfl

@[simp] theorem State.beginTick_params (s : State) : s.beginTick.params = s.params := rfl

@[simp] theorem State.beginTick_phase (s : State) : s.beginTick.phase = s.phase := rfl

@[simp] theorem State.beginTick_line (s : State) : s.beginTick.line = s.line := rfl

@[simp] theorem State.beginTick_bit (s : State) : s.beginTick.bit = s.bit := rfl

@[simp] theorem State.beginTick_scan (s : State) : s.beginTick.scan = s.scan := rfl

@[simp] theorem State.beginTick_xferLine (s : State) : s.beginTick.xferLine = s.xferLine := rfl

@[simp] theorem State.beginTick_rdBank (s : State) : s.beginTick.rdBank = s.rdBank := rfl

@[simp] theorem State.beginTick_dly (s : State) : s.beginTick.dly = s.dly := rfl

@[simp] theorem State.beginTick_stopCnt (s : State) : s.beginTick.stopCnt = s.stopCnt := rfl

@[simp] theorem State.beginTick_stopReq (s : State) : s.beginTick.stopReq = s.stopReq := rfl

@[simp] theorem State.beginTick_shPhase (s : State) : s.beginTick.shPhase = s.shPhase := rfl

@[simp] theorem State.beginTick_shBank (s : State) : s.beginTick.shBank = s.shBank := rfl

@[simp] theorem State.beginTick_shLine (s : State) : s.beginTick.shLine = s.shLine := rfl

@[simp] theorem State.beginTick_shPlane (s : State) : s.beginTick.shPlane = s.shPlane := rfl

@[simp] theorem State.beginTick_shIdx (s : State) : s.beginTick.shIdx = s.shIdx := rfl

@[simp] theorem State.beginTick_shBit (s : State) : s.beginTick.shBit = s.shBit := rfl

@[simp] theorem State.beginTick_evDone (s : State) : s.beginTick.evDone = s.evDone := rfl

@[simp] theorem State.beginTick_cnt (s : State) : s.beginTick.cnt = s.cnt := rfl

@[simp] theorem State.beginTick_tBcm (s : State) : s.beginTick.tBcm = s.tBcm := rfl

@[simp] theorem State.beginTick_tLine (s : State) : s.beginTick.tLine = s.tLine := rfl

@[simp] theorem State.beginTick_tOn (s : State) : s.beginTick.tOn = s.tOn := rfl

@[simp] theorem State.beginTick_port (s : State) : s.beginTick.port = s.port := rfl

@[simp] theorem State.beginTick_sticky (s : State) : s.beginTick.sticky = s.sticky := rfl

@[simp] theorem State.beginTick_irqEn (s : State) : s.beginTick.irqEn = s.irqEn := rfl

@[simp] theorem State.beginTick_brightness (s : State) : s.beginTick.brightness = s.brightness := rfl

@[simp] theorem State.beginTick_stg (s : State) : s.beginTick.stg = s.stg := rfl

@[simp] theorem State.beginTick_cfg (s : State) : s.beginTick.cfg = s.cfg := rfl

@[simp] theorem State.beginTick_fb (s : State) : s.beginTick.fb = s.fb := rfl

@[simp] theorem State.beginTick_bpb0 (s : State) : s.beginTick.bpb0 = s.bpb0 := rfl

@[simp] theorem State.beginTick_bpb1 (s : State) : s.beginTick.bpb1 = s.bpb1 := rfl

@[simp] theorem State.beginTick_draws (s : State) : s.beginTick.draws = s.draws := rfl

/-! ## Reset -/

@[simp] theorem State.afterReset_params (s : State) :
    s.afterReset.params = s.params := rfl

@[simp] theorem State.afterReset_inputs (s : State) :
    s.afterReset.inputs = s.inputs := rfl

@[simp] theorem State.afterReset_draws (s : State) :
    s.afterReset.draws = s.draws + 7 := rfl

@[simp] theorem State.afterReset_cnt (s : State) :
    s.afterReset.cnt = Config.freeWord s.draws := rfl

@[simp] theorem State.afterReset_phase (s : State) :
    s.afterReset.phase = .idle := rfl

@[simp] theorem State.afterReset_shPhase (s : State) :
    s.afterReset.shPhase = .idle := rfl

@[simp] theorem State.afterReset_port (s : State) :
    s.afterReset.port = Port.safe := rfl

@[simp] theorem State.afterReset_sticky (s : State) :
    s.afterReset.sticky = {} := rfl

@[simp] theorem State.afterReset_irqEn (s : State) :
    s.afterReset.irqEn = {} := rfl

@[simp] theorem State.afterReset_brightness (s : State) :
    s.afterReset.brightness = 255 := rfl

@[simp] theorem State.afterReset_stg (s : State) :
    s.afterReset.stg = Stg.reset := rfl

@[simp] theorem State.afterReset_cfg (s : State) :
    s.afterReset.cfg = validate s.params Stg.reset := rfl

@[simp] theorem State.afterReset_evDone (s : State) :
    s.afterReset.evDone = false := rfl

@[simp] theorem State.afterReset_stopReq (s : State) :
    s.afterReset.stopReq = false := rfl

@[simp] theorem State.afterReset_line (s : State) :
    s.afterReset.line = 0 := rfl

@[simp] theorem State.afterReset_bit (s : State) :
    s.afterReset.bit = 0 := rfl

@[simp] theorem State.afterReset_scan (s : State) :
    s.afterReset.scan = 0 := rfl

@[simp] theorem State.afterReset_xferLine (s : State) :
    s.afterReset.xferLine = 0 := rfl

@[simp] theorem State.afterReset_rdBank (s : State) :
    s.afterReset.rdBank = false := rfl

@[simp] theorem State.afterReset_rdData (s : State) :
    s.afterReset.rdData = 0 := rfl

@[simp] theorem State.afterReset_fb (s : State) :
    s.afterReset.fb = { fill := .free (s.draws + 4), cells := [] } := rfl

@[simp] theorem State.afterReset_bpb0 (s : State) :
    s.afterReset.bpb0 = { fill := .free (s.draws + 5), cells := [] } := rfl

@[simp] theorem State.afterReset_bpb1 (s : State) :
    s.afterReset.bpb1 = { fill := .free (s.draws + 6), cells := [] } := rfl

@[simp] theorem State.afterReset_tBcm (s : State) :
    s.afterReset.tBcm = { cmp := Config.freeWord (s.draws + 1), arm := false, ev := false } := rfl

@[simp] theorem State.afterReset_tLine (s : State) :
    s.afterReset.tLine = { cmp := Config.freeWord (s.draws + 2), arm := false, ev := false } := rfl

@[simp] theorem State.afterReset_tOn (s : State) :
    s.afterReset.tOn = { cmp := Config.freeWord (s.draws + 3), arm := false, ev := false } := rfl

/-- The memories of the machine after reset are in canonical form. -/
theorem State.wf_resetWith (p : Params) :
    (State.resetWith p).fb.wf = true ∧ (State.resetWith p).bpb0.wf = true ∧ (State.resetWith p).bpb1.wf = true :=
  ⟨rfl, rfl, rfl⟩

end Sys2Proof.Machine
end

