-- ==== Sys2Proof/Laws/Step.lean ====
section
/-! SUPPORT. What `exec`, the fetch of a tick and `step` can do, once each: later proofs cite these and unfold
none of them. -/

namespace Sys2Proof.Machine

/-! ## One operation by itself -/

/-- An operation by itself commits its writes alone (log 9); `RESET` replaces the state. -/
theorem exec_eq_solo (i : Instr) (s : State) (h : i ≠ .reset) : exec i s = solo (effectOf i s) s := by
  cases i <;> first | rfl | exact absurd rfl h

theorem exec_reset (s : State) : exec .reset s = .next s.afterReset := rfl

/-- All that an operation other than `RESET` can answer. -/
theorem exec_eq_next_iff {i : Instr} {s t : State} (h : i ≠ .reset) :
    exec i s = .next t ↔ ∃ e, effectOf i s = .ok e ∧ t = commit s e := by
  rw [exec_eq_solo i s h, solo_eq_next_iff]

/-- The operations that can fault: `PACK`, its two invokers and `SH_DATA` (log 14). -/
theorem effectOf_ok {i : Instr} (h : i ≠ .pack ∧ i ≠ .prime ∧ i ≠ .vsync ∧ i ≠ .shData) (s : State) :
    ∃ e, effectOf i s = .ok e := by
  obtain ⟨h1, h2, h3, h4⟩ := h
  cases i <;> first | exact ⟨_, rfl⟩ | contradiction

/-- No operation is ever refused. -/
theorem exec_ne_refused (i : Instr) (s : State) (r : Refusal) : exec i s ≠ .refused r := by
  by_cases h : i = .reset
  · subst h
    exact fun h => by cases h
  · rw [exec_eq_solo i s h]
    cases effectOf i s <;> exact fun h => by cases h

/-! ## Gathering -/

@[simp] theorem gather_nil (s : State) : gather [] s = .ok {} := rfl

theorem gather_cons_ok {i : Instr} {is : List Instr} {s : State} {e e' : Effect}
    (h : effectOf i s = .ok e) (h' : gather is s = .ok e') : gather (i :: is) s = .ok (e.join e') := by
  simp [gather, h, h']

/-- Where several operations all answer, their writes are joined; each answered by itself. -/
theorem gather_cons_eq_ok_iff {i : Instr} {is : List Instr} {s : State} {e : Effect} :
    gather (i :: is) s = .ok e ↔
      ∃ a b, effectOf i s = .ok a ∧ gather is s = .ok b ∧ e = a.join b := by
  constructor
  · intro h
    unfold gather at h
    split at h
    · injection h with h
      exact ⟨_, _, ‹_›, ‹_›, h.symm⟩
    · cases h
    · cases h
  · rintro ⟨a, b, ha, hb, rfl⟩
    exact gather_cons_ok ha hb

/-! ## Fetch -/

theorem decodePhase_code (ph : Phase) : decodePhase ph.code = .ok ph.op := by cases ph <;> rfl

theorem decodeShphase_code (ph : ShPhase) : decodeShphase ph.code = .ok ph.op := by cases ph <;> rfl

/-- The controller's operation: the one its phase names, in `L_IDLE` the handler the four flags select. -/
theorem controllerOp_eq (s : State) :
    controllerOp s = if s.phase = .lIdle then decodeLidle s.lidleWord else s.phase.op := by
  unfold controllerOp
  rw [decodePhase_code]
  cases s.phase <;> rfl

/-- The shifter's operation. -/
theorem shifterOp_eq (inp : TickIn) (s : State) :
    shifterOp inp s = if stalled inp s = true then .shStall else s.shPhase.op := by
  unfold shifterOp
  rw [decodeShphase_code]
  cases stalled inp s <;> rfl

/-- The handler of `L_IDLE`, by its flags. -/
theorem decodeLidle_lidleWord (s : State) :
    decodeLidle s.lidleWord =
      if s.stopReq = true then .lStopReq else if s.evDone = true then .lDone
      else if s.tOn.ev = true then .onExpire else if s.tLine.ev = true then .lineTick else .lNop := by
  unfold State.lidleWord
  cases s.stopReq <;> cases s.evDone <;> cases s.tOn.ev <;> cases s.tLine.ev <;> rfl

/-- `L_IDLE` by itself runs the handler its flags select. -/
theorem effectOf_lIdle (s : State) : effectOf .lIdle s = effectOf (decodeLidle s.lidleWord) s := by
  rw [decodeLidle_lidleWord]
  show Except.ok (effLIdle s) = _
  unfold effLIdle
  cases s.stopReq <;> cases s.evDone <;> cases s.tOn.ev <;> cases s.tLine.ev <;> rfl

/-- The controller's writes, whether or not it is in `L_IDLE`. -/
theorem effectOf_controllerOp (s : State) : effectOf (controllerOp s) s = effectOf s.phase.op s := by
  rw [controllerOp_eq]
  split
  · rename_i h
    rw [h, ← effectOf_lIdle]
    rfl
  · rfl

theorem fetch_eq (inp : TickIn) (s : State) :
    fetch inp s =
      .tmrCount :: .tmrMatchOneshot .bcm :: .tmrMatchOneshot .on :: .tmrMatchPeriodic ::
        shifterOp inp s :: controllerOp s :: hostOps inp s := rfl

/-! ## Step -/

/-- A reset tick. -/
theorem step_reset {s : State} (h : s.input.rst = true) : step s = .next s.beginTick.afterReset := by
  simp [step, h, exec_reset]

/-- Any other tick. -/
theorem step_tick {s : State} (h : s.input.rst = false) :
    step s = solo (gather (fetch s.input s.beginTick) s.beginTick) s.beginTick := by
  simp [step, h, tick]

/-- All that a step can answer as a next state. -/
theorem step_eq_next_iff {s t : State} :
    step s = .next t ↔
      (s.input.rst = true ∧ t = s.beginTick.afterReset) ∨
      (s.input.rst = false ∧
        ∃ e, gather (fetch s.input s.beginTick) s.beginTick = .ok e ∧ t = commit s.beginTick e) := by
  cases h : s.input.rst with
  | true => simp [step_reset h, eq_comm]
  | false => simp [step_tick h, solo_eq_next_iff]

end Sys2Proof.Machine
end

