-- ==== Sys2Proof/Laws/PerInstr.lean ====
section
/-! SUPPORT. Statements made of every operation, one lemma per constructor of `Instr`. -/

namespace Sys2Proof.Laws

/-- The bits of an operation fit in the width of its format (30_encoding.md R60; log 11 for `INVOKED`). -/
def EncodingFits.Statement (i : Instr) : Prop := (encode i).2 < 2 ^ (encode i).1.width

/-- A host word fits in its 65 bits. -/
theorem hostWord_fits (w : HostWord) : w.toNat < 2 ^ Format.host.width := w.isLt

/-- An `INVOKED` word fits when its operand field does. -/
theorem invokedWord_fits {id rest : Nat} (hid : id < 256) (hrest : rest < 2 ^ 34) :
    invokedWord id rest < 2 ^ Format.invoked.width := by
  simp only [invokedWord, Format.width]
  omega

theorem EncodingFits.start : EncodingFits.Statement .start := hostWord_fits _

theorem EncodingFits.stop : EncodingFits.Statement .stop := hostWord_fits _

theorem EncodingFits.modeset : EncodingFits.Statement .modeset := hostWord_fits _

theorem EncodingFits.cmdReserved (value : Word) : EncodingFits.Statement (.cmdReserved value) := hostWord_fits _

theorem EncodingFits.wrStatus (value : Word) : EncodingFits.Statement (.wrStatus value) := hostWord_fits _

theorem EncodingFits.wrIrqEn (value : Word) : EncodingFits.Statement (.wrIrqEn value) := hostWord_fits _

theorem EncodingFits.wrBrightness (value : Word) : EncodingFits.Statement (.wrBrightness value) := hostWord_fits _

theorem EncodingFits.wrXres (value : Word) : EncodingFits.Statement (.wrXres value) := hostWord_fits _

theorem EncodingFits.wrYres (value : Word) : EncodingFits.Statement (.wrYres value) := hostWord_fits _

theorem EncodingFits.wrBpp (value : Word) : EncodingFits.Statement (.wrBpp value) := hostWord_fits _

theorem EncodingFits.wrRefresh (value : Word) : EncodingFits.Statement (.wrRefresh value) := hostWord_fits _

theorem EncodingFits.wrPanelW (value : Word) : EncodingFits.Statement (.wrPanelW value) := hostWord_fits _

theorem EncodingFits.wrPanelH (value : Word) : EncodingFits.Statement (.wrPanelH value) := hostWord_fits _

theorem EncodingFits.wrNLines (value : Word) : EncodingFits.Statement (.wrNLines value) := hostWord_fits _

theorem EncodingFits.wrNBits (value : Word) : EncodingFits.Statement (.wrNBits value) := hostWord_fits _

theorem EncodingFits.wrFlags (value : Word) : EncodingFits.Statement (.wrFlags value) := hostWord_fits _

theorem EncodingFits.wrBcmUnit (value : Word) : EncodingFits.Statement (.wrBcmUnit value) := hostWord_fits _

theorem EncodingFits.wrDimTicks (value : Word) : EncodingFits.Statement (.wrDimTicks value) := hostWord_fits _

theorem EncodingFits.wrLatchHold (value : Word) : EncodingFits.Statement (.wrLatchHold value) := hostWord_fits _

theorem EncodingFits.wrStopTimeout (value : Word) : EncodingFits.Statement (.wrStopTimeout value) := hostWord_fits _

theorem EncodingFits.fbWr (addr value : Word) : EncodingFits.Statement (.fbWr addr value) := hostWord_fits _

theorem EncodingFits.wrIgnored (addr value : Word) : EncodingFits.Statement (.wrIgnored addr value) := hostWord_fits _

theorem EncodingFits.rdReg (reg : HostReg) : EncodingFits.Statement (.rdReg reg) := hostWord_fits _

theorem EncodingFits.fbRd (addr : Word) : EncodingFits.Statement (.fbRd addr) := hostWord_fits _

theorem EncodingFits.rdUnmapped (addr : Word) : EncodingFits.Statement (.rdUnmapped addr) := hostWord_fits _

theorem EncodingFits.idle : EncodingFits.Statement .idle := by unfold EncodingFits.Statement; decide

theorem EncodingFits.waitBit : EncodingFits.Statement .waitBit := by unfold EncodingFits.Statement; decide

theorem EncodingFits.blank : EncodingFits.Statement .blank := by unfold EncodingFits.Statement; decide

theorem EncodingFits.shiftGo : EncodingFits.Statement .shiftGo := by unfold EncodingFits.Statement; decide

theorem EncodingFits.shiftWait : EncodingFits.Statement .shiftWait := by unfold EncodingFits.Statement; decide

theorem EncodingFits.latOn : EncodingFits.Statement .latOn := by unfold EncodingFits.Statement; decide

theorem EncodingFits.latHold : EncodingFits.Statement .latHold := by unfold EncodingFits.Statement; decide

theorem EncodingFits.latOff : EncodingFits.Statement .latOff := by unfold EncodingFits.Statement; decide

theorem EncodingFits.setLine : EncodingFits.Statement .setLine := by unfold EncodingFits.Statement; decide

theorem EncodingFits.startDim : EncodingFits.Statement .startDim := by unfold EncodingFits.Statement; decide

theorem EncodingFits.waitDim : EncodingFits.Statement .waitDim := by unfold EncodingFits.Statement; decide

theorem EncodingFits.startBit : EncodingFits.Statement .startBit := by unfold EncodingFits.Statement; decide

theorem EncodingFits.unblank : EncodingFits.Statement .unblank := by unfold EncodingFits.Statement; decide

theorem EncodingFits.advance : EncodingFits.Statement .advance := by unfold EncodingFits.Statement; decide

theorem EncodingFits.vsync : EncodingFits.Statement .vsync := by unfold EncodingFits.Statement; decide

theorem EncodingFits.prime : EncodingFits.Statement .prime := by unfold EncodingFits.Statement; decide

theorem EncodingFits.lIdle : EncodingFits.Statement .lIdle := by unfold EncodingFits.Statement; decide

theorem EncodingFits.lBlank : EncodingFits.Statement .lBlank := by unfold EncodingFits.Statement; decide

theorem EncodingFits.lLatOn : EncodingFits.Statement .lLatOn := by unfold EncodingFits.Statement; decide

theorem EncodingFits.lLatHold : EncodingFits.Statement .lLatHold := by unfold EncodingFits.Statement; decide

theorem EncodingFits.lLatOff : EncodingFits.Statement .lLatOff := by unfold EncodingFits.Statement; decide

theorem EncodingFits.lSetLine : EncodingFits.Statement .lSetLine := by unfold EncodingFits.Statement; decide

theorem EncodingFits.lUnblank : EncodingFits.Statement .lUnblank := by unfold EncodingFits.Statement; decide

theorem EncodingFits.lStopWait : EncodingFits.Statement .lStopWait := by unfold EncodingFits.Statement; decide

theorem EncodingFits.lStopSafe : EncodingFits.Statement .lStopSafe := by unfold EncodingFits.Statement; decide

theorem EncodingFits.lStopReq : EncodingFits.Statement .lStopReq := by unfold EncodingFits.Statement; decide

theorem EncodingFits.lDone : EncodingFits.Statement .lDone := by unfold EncodingFits.Statement; decide

theorem EncodingFits.onExpire : EncodingFits.Statement .onExpire := by unfold EncodingFits.Statement; decide

theorem EncodingFits.lineTick : EncodingFits.Statement .lineTick := by unfold EncodingFits.Statement; decide

theorem EncodingFits.lNop : EncodingFits.Statement .lNop := by unfold EncodingFits.Statement; decide

theorem EncodingFits.shIdle : EncodingFits.Statement .shIdle := by unfold EncodingFits.Statement; decide

theorem EncodingFits.shData : EncodingFits.Statement .shData := by unfold EncodingFits.Statement; decide

theorem EncodingFits.shClkhi : EncodingFits.Statement .shClkhi := by unfold EncodingFits.Statement; decide

theorem EncodingFits.shClklo : EncodingFits.Statement .shClklo := by unfold EncodingFits.Statement; decide

theorem EncodingFits.shExit : EncodingFits.Statement .shExit := by unfold EncodingFits.Statement; decide

theorem EncodingFits.pack : EncodingFits.Statement .pack := by unfold EncodingFits.Statement; decide

theorem EncodingFits.lineSelect (n : Index3) : EncodingFits.Statement (.lineSelect n) := invokedWord_fits (by decide) (by omega)

theorem EncodingFits.startTimer (ch : Chan) (d : Word) : EncodingFits.Statement (.startTimer ch d) := invokedWord_fits (by decide) (by cases ch <;> simp only [Chan.field] <;> omega)

theorem EncodingFits.disarm (ch : Chan) : EncodingFits.Statement (.disarm ch) := invokedWord_fits (by decide) (by cases ch <;> decide)

theorem EncodingFits.shStart (bank : Bool) (line plane : Index3) : EncodingFits.Statement (.shStart bank line plane) := invokedWord_fits (by decide) (by cases bank <;> simp only [Bool.toNat_true, Bool.toNat_false] <;> omega)

theorem EncodingFits.shAbort : EncodingFits.Statement .shAbort := by unfold EncodingFits.Statement; decide

theorem EncodingFits.tmrCount : EncodingFits.Statement .tmrCount := by unfold EncodingFits.Statement; decide

theorem EncodingFits.tmrMatchOneshot (ch : OneShot) : EncodingFits.Statement (.tmrMatchOneshot ch) := invokedWord_fits (by decide) (by cases ch <;> decide)

theorem EncodingFits.tmrMatchPeriodic : EncodingFits.Statement .tmrMatchPeriodic := by unfold EncodingFits.Statement; decide

theorem EncodingFits.shStall : EncodingFits.Statement .shStall := by unfold EncodingFits.Statement; decide

theorem EncodingFits.reset : EncodingFits.Statement .reset := by unfold EncodingFits.Statement; decide

end Sys2Proof.Laws
end

