-- ==== Sys2Proof/Machine/Script.lean ====
section
/-! DEFINITION. Host programs: the mode string (30_encoding.md R74) and the script lines (R75) as the inputs of
ticks. They are notation for the environment's inputs; no rule of the machine reads them. -/

namespace Sys2Proof.Machine

/-! ## The mode string -/

/-- `"<xres>x<yres>[-<bpp>][@<refresh>]"`. -/
structure ModeString where
  xres    : Word
  yres    : Word
  bpp     : Option Word
  refresh : Option Word
  deriving DecidableEq, Repr

/-- The host writes `MODE "<string>"` expands to, one a tick (30_encoding.md R74). -/
def ModeString.expand (m : ModeString) : List HostWord :=
  [HostWord.write 0x20 m.xres, HostWord.write 0x24 m.yres] ++
    (match m.bpp with | some v => [HostWord.write 0x28 v] | none => []) ++
    (match m.refresh with | some v => [HostWord.write 0x2C v] | none => []) ++
    [HostWord.write 0x00 3]

/-- The value of a decimal digit. -/
def digit (c : Char) : Option Nat :=
  if '0' ≤ c ∧ c ≤ '9' then some (c.toNat - '0'.toNat) else none

/-- An unsigned decimal number at the head of a text, with the rest: `acc` holds the digits read so far. -/
def readDecimal : Option Nat → List Char → Option (Nat × List Char)
  | none, [] => none
  | some n, [] => some (n, [])
  | acc, c :: cs =>
    match digit c, acc with
    | some d, none => readDecimal (some d) cs
    | some d, some n => readDecimal (some (10 * n + d)) cs
    | none, some n => some (n, c :: cs)
    | none, none => none

/-- An optional part of the mode string: a mark and a number, of which the low 32 bits are kept (DESIGN CHOICE, log
28). -/
def readPart (mark : Char) (text : List Char) : Option (Option Word × List Char) :=
  match text with
  | [] => some (none, [])
  | c :: cs =>
    if c = mark then
      match readDecimal none cs with
      | some (n, rest) => some (some (BitVec.ofNat 32 n), rest)
      | none => none
    else some (none, c :: cs)

/-- The mode a text names, if it follows the grammar (30_encoding.md R74). The spec sets no limit on a number
(91_not_in_source.md N19): one of `2^32` or more is not rejected, its low 32 bits are what the write carries
(DESIGN CHOICE, log 28). -/
def ModeString.parse (text : List Char) : Option ModeString :=
  match readDecimal none text with
  | some (x, 'x' :: afterX) =>
    match readDecimal none afterX with
    | some (y, afterY) =>
      match readPart '-' afterY with
      | some (bpp, afterBpp) =>
        match readPart '@' afterBpp with
        | some (refresh, []) =>
          some { xres := BitVec.ofNat 32 x, yres := BitVec.ofNat 32 y, bpp, refresh }
        | _ => none
      | none => none
    | none => none
  | _ => none

/-! ## Scripts -/

/-- A script line (30_encoding.md R75). -/
inductive ScriptLine where
  | wr (tick : Nat) (addr value : Word)
  | rd (tick : Nat) (addr : Word)
  | command (tick : Nat) (code : Word)
  | fill (tick : Nat) (first count : Nat) (value : Word)
  | stall (first last : Nat)
  deriving DecidableEq, Repr

/-- The host access a line puts into a tick; an `FB` index past the end of the 32-bit address space wraps (DESIGN
CHOICE, log 28). -/
def ScriptLine.hostOp (l : ScriptLine) (t : Nat) : Option HostWord :=
  match l with
  | .wr tick addr value => if t = tick then some (HostWord.write addr value) else none
  | .rd tick addr => if t = tick then some (HostWord.read addr) else none
  | .command tick code => if t = tick then some (HostWord.write 0x00 code) else none
  | .fill tick first count value =>
    if tick ≤ t ∧ t < tick + count then
      some (HostWord.write (BitVec.ofNat 32 (0x10000 + first + (t - tick))) value)
    else none
  | .stall _ _ => none

/-- Whether a line stalls a tick. -/
def ScriptLine.stalls (l : ScriptLine) (t : Nat) : Bool :=
  match l with
  | .stall first last => decide (first ≤ t ∧ t ≤ last)
  | _ => false

/-- The inputs of the ticks `0 .. n-1` of a script; ticks it does not name carry no access and no stall
(30_encoding.md R75). Where two lines name one tick, which R80 allows no program, the first line's access is
taken (DESIGN CHOICE, log 28). -/
def scriptInputs (n : Nat) (script : List ScriptLine) : List TickIn :=
  (List.range n).map fun t =>
    { hostOp := script.findSome? fun l => l.hostOp t, txStall := script.any fun l => l.stalls t }

end Sys2Proof.Machine
end

