-- ==== Sys2Proof/Tests/Slice0.lean ====
section
/-! SUPPORT. Tests: well-formedness, the decoding of words written out from 30_encoding.md, one small step of every
operation, and a witness for the hypotheses of every obligation that has any. Expected values are the spec's
examples and vectors, or follow from the rule named beside the test. -/

namespace Sys2Proof.Tests

/-! One theorem at a time: kernel evaluations waiting for one another would each hold a thread and its stack. -/

set_option Elab.async false

open Sys2Proof.Machine

/-! ## Helpers -/

/-- The answer is a next state. -/
def isNext (o : Host.Outcome State Fault Refusal) : Bool :=
  match o with
  | .next _ => true
  | _ => false

/-- The next state of an answer that has one. -/
def after (o : Host.Outcome State Fault Refusal) : State :=
  match o with
  | .next t => t
  | _ => State.reset

theorem exists_next {o : Host.Outcome State Fault Refusal} (h : isNext o = true) : ∃ t, o = .next t := by
  cases o with
  | next t => exact ⟨t, rfl⟩
  | fault f => cases h
  | refused r => cases h

theorem next_after {o : Host.Outcome State Fault Refusal} (h : isNext o = true) : o = .next (after o) := by
  cases o with
  | next t => rfl
  | fault f => cases h
  | refused r => cases h

/-- One operation on a state. -/
def one (i : Instr) (s : State) : State := after (exec i s)

/-- One tick under given inputs. -/
def tickOf (inp : TickIn) (s : State) : State := after (step { s with inputs := [inp] })

/-- The staged registers of program P1 (95_test_vectors.md): RGB, BCM regime, one line, two planes. -/
def p1Stg : Stg :=
  { Stg.reset with
    xres := 8, yres := 2, bpp := 8, panelW := 8, nLines := 1, nBits := 2, flags := 0, bcmUnit := 8,
    dimTicks := 2, latchHold := 0 }

/-- P1's configuration with two lines (95_test_vectors.md 2.6, last row). -/
def p1TwoLines : Stg := { p1Stg with yres := 4, nLines := 2 }

/-- A stopped machine in P1's mode. -/
def bcm : State := { State.reset with stg := p1Stg, cfg := validate Params.vectors p1Stg }

/-- A stopped machine in P1's mode with two lines. -/
def bcm2 : State := { State.reset with stg := p1TwoLines, cfg := validate Params.vectors p1TwoLines }

/-- VS2's configuration (95_test_vectors.md 2.4): mono, LINE regime, one byte a row, two lines. -/
def vs2Stg : Stg :=
  { Stg.reset with xres := 8, yres := 2, panelW := 8, panelH := 2, nLines := 2, refresh := 5000 }

/-- A stopped machine in VS2's mode. -/
def line2 : State := { State.reset with stg := vs2Stg, cfg := validate Params.vectors vs2Stg }

/-- A channel that has fired. -/
def fired : Channel := { cmp := 0, arm := false, ev := true }

/-- A channel that is armed and far from firing. -/
def armed : Channel := { cmp := 500, arm := true, ev := false }

/-- A running BCM machine in a phase, its timer event set. -/
def bcmAt (ph : Phase) : State := { bcm2 with phase := ph, tBcm := fired, rdBank := true }

/-- A running LINE machine in a phase, its periodic channel armed. -/
def lineAt (ph : Phase) : State := { line2 with phase := ph, tLine := armed, rdBank := true }

/-! ## Well-formedness: an ill-formed term for each check -/

theorem test_wf_cmdReserved :
    ¬ WellFormed Params.vectors (.cmdReserved 1) ∧ ¬ WellFormed Params.vectors (.cmdReserved 2) ∧
      ¬ WellFormed Params.vectors (.cmdReserved 3) := by decide

theorem test_wf_fbWr :
    ¬ WellFormed Params.vectors (.fbWr 0xFFFF 0) ∧ ¬ WellFormed Params.vectors (.fbWr 0x20000 0) := by decide

theorem test_wf_fbRd :
    ¬ WellFormed Params.vectors (.fbRd 0xFFFF) ∧ ¬ WellFormed Params.vectors (.fbRd 0x20000) := by decide

theorem test_wf_wrIgnored :
    ¬ WellFormed Params.vectors (.wrIgnored 0x50 0) ∧ ¬ WellFormed Params.vectors (.wrIgnored 0x10000 0) := by decide

theorem test_wf_rdUnmapped :
    ¬ WellFormed Params.vectors (.rdUnmapped 0x0C) ∧ ¬ WellFormed Params.vectors (.rdUnmapped 0x1FFFF) := by decide

/-! ## Decoding: every constructor from a word written out from the spec -/

/-- R60, R70: rw at bit 64, addr 63:32, value 31:0; the whole value is the code. -/
theorem test_decode_commands :
    decode Params.vectors .host 0x1_00000000_00000001 = .ok .start ∧
      decode Params.vectors .host 0x1_00000000_00000002 = .ok .stop ∧
      decode Params.vectors .host 0x1_00000000_00000003 = .ok .modeset ∧
      decode Params.vectors .host 0x1_00000000_00000000 = .ok (.cmdReserved 0) ∧
      decode Params.vectors .host 0x1_00000000_00000101 = .ok (.cmdReserved 0x101) := by decide

/-- R62: STATUS 0x04, IRQ_EN 0x08, BRIGHTNESS 0x14. -/
theorem test_decode_settings :
    decode Params.vectors .host 0x1_00000004_00000008 = .ok (.wrStatus 8) ∧
      decode Params.vectors .host 0x1_00000008_0000005C = .ok (.wrIrqEn 0x5C) ∧
      decode Params.vectors .host 0x1_00000014_00000180 = .ok (.wrBrightness 0x180) := by decide

/-- R62: the staged registers at 0x20 to 0x50. -/
theorem test_decode_staged :
    decode Params.vectors .host 0x1_00000020_00000001 = .ok (.wrXres 1) ∧
      decode Params.vectors .host 0x1_00000024_00000002 = .ok (.wrYres 2) ∧
      decode Params.vectors .host 0x1_00000028_00000003 = .ok (.wrBpp 3) ∧
      decode Params.vectors .host 0x1_0000002C_00000004 = .ok (.wrRefresh 4) ∧
      decode Params.vectors .host 0x1_00000030_00000005 = .ok (.wrPanelW 5) ∧
      decode Params.vectors .host 0x1_00000034_00000006 = .ok (.wrPanelH 6) ∧
      decode Params.vectors .host 0x1_00000038_00000007 = .ok (.wrNLines 7) ∧
      decode Params.vectors .host 0x1_0000003C_00000008 = .ok (.wrNBits 8) ∧
      decode Params.vectors .host 0x1_00000040_00000009 = .ok (.wrFlags 9) ∧
      decode Params.vectors .host 0x1_00000044_0000000A = .ok (.wrBcmUnit 10) ∧
      decode Params.vectors .host 0x1_00000048_0000000B = .ok (.wrDimTicks 11) ∧
      decode Params.vectors .host 0x1_0000004C_0000000C = .ok (.wrLatchHold 12) ∧
      decode Params.vectors .host 0x1_00000050_0000000D = .ok (.wrStopTimeout 13) := by decide

/-- R42, R43: the FB window is 0x10000 to 0x1FFFF with 65536 bytes; other addresses are unmapped or read-only. -/
theorem test_decode_framebuffer :
    decode Params.vectors .host 0x1_00010000_000000FF = .ok (.fbWr 0x10000 0xFF) ∧
      decode Params.vectors .host 0x1_0001FFFF_00000001 = .ok (.fbWr 0x1FFFF 1) ∧
      decode Params.vectors .host 0x0_00010005_00000000 = .ok (.fbRd 0x10005) ∧
      decode Params.vectors .host 0x1_00020000_00000001 = .ok (.wrIgnored 0x20000 1) ∧
      decode Params.vectors .host 0x1_0000000C_0000FFFF = .ok (.wrIgnored 0x0C 0xFFFF) ∧
      decode Params.vectors .host 0x0_00000018_00000000 = .ok (.rdUnmapped 0x18) ∧
      decode Params.vectors .host 0x0_00000005_00000000 = .ok (.rdUnmapped 5) := by decide

/-- R62: the read offsets below 0x20. -/
theorem test_decode_read_status :
    decode Params.vectors .host 0x0_00000000_00000000 = .ok (.rdReg .ctrl) ∧
      decode Params.vectors .host 0x0_00000004_00000000 = .ok (.rdReg .status) ∧
      decode Params.vectors .host 0x0_00000008_00000000 = .ok (.rdReg .irqEn) ∧
      decode Params.vectors .host 0x0_0000000C_00000000 = .ok (.rdReg .port) ∧
      decode Params.vectors .host 0x0_00000010_00000000 = .ok (.rdReg .scan) ∧
      decode Params.vectors .host 0x0_00000014_00000000 = .ok (.rdReg .brightness) := by decide

/-- R62: the staged registers read. -/
theorem test_decode_read_staged :
    decode Params.vectors .host 0x0_00000020_00000000 = .ok (.rdReg .xres) ∧
      decode Params.vectors .host 0x0_00000024_00000000 = .ok (.rdReg .yres) ∧
      decode Params.vectors .host 0x0_00000028_00000000 = .ok (.rdReg .bpp) ∧
      decode Params.vectors .host 0x0_0000002C_00000000 = .ok (.rdReg .refresh) ∧
      decode Params.vectors .host 0x0_00000030_00000000 = .ok (.rdReg .panelW) ∧
      decode Params.vectors .host 0x0_00000034_00000000 = .ok (.rdReg .panelH) ∧
      decode Params.vectors .host 0x0_00000038_00000000 = .ok (.rdReg .nLines) ∧
      decode Params.vectors .host 0x0_0000003C_00000000 = .ok (.rdReg .nBits) ∧
      decode Params.vectors .host 0x0_00000040_00000000 = .ok (.rdReg .flags) ∧
      decode Params.vectors .host 0x0_00000044_00000000 = .ok (.rdReg .bcmUnit) ∧
      decode Params.vectors .host 0x0_00000048_00000000 = .ok (.rdReg .dimTicks) ∧
      decode Params.vectors .host 0x0_0000004C_00000000 = .ok (.rdReg .latchHold) ∧
      decode Params.vectors .host 0x0_00000050_00000000 = .ok (.rdReg .stopTimeout) := by decide

/-- R62: the active mirrors at 0x80 to 0xB0. -/
theorem test_decode_read_active :
    decode Params.vectors .host 0x0_00000080_00000000 = .ok (.rdReg .aXres) ∧
      decode Params.vectors .host 0x0_00000084_00000000 = .ok (.rdReg .aYres) ∧
      decode Params.vectors .host 0x0_00000088_00000000 = .ok (.rdReg .aBpp) ∧
      decode Params.vectors .host 0x0_0000008C_00000000 = .ok (.rdReg .aRefresh) ∧
      decode Params.vectors .host 0x0_00000090_00000000 = .ok (.rdReg .aPanelW) ∧
      decode Params.vectors .host 0x0_00000094_00000000 = .ok (.rdReg .aPanelH) ∧
      decode Params.vectors .host 0x0_00000098_00000000 = .ok (.rdReg .aNLines) ∧
      decode Params.vectors .host 0x0_0000009C_00000000 = .ok (.rdReg .aNBits) ∧
      decode Params.vectors .host 0x0_000000A0_00000000 = .ok (.rdReg .aFlags) ∧
      decode Params.vectors .host 0x0_000000A4_00000000 = .ok (.rdReg .aBcmUnit) ∧
      decode Params.vectors .host 0x0_000000A8_00000000 = .ok (.rdReg .aDimTicks) ∧
      decode Params.vectors .host 0x0_000000AC_00000000 = .ok (.rdReg .aLatchHold) ∧
      decode Params.vectors .host 0x0_000000B0_00000000 = .ok (.rdReg .aStopTimeout) := by decide

/-- R62: the derived registers at 0xC0 to 0xDC. -/
theorem test_decode_read_derived :
    decode Params.vectors .host 0x0_000000C0_00000000 = .ok (.rdReg .nPanels) ∧
      decode Params.vectors .host 0x0_000000C4_00000000 = .ok (.rdReg .rowLen) ∧
      decode Params.vectors .host 0x0_000000C8_00000000 = .ok (.rdReg .linePeriod) ∧
      decode Params.vectors .host 0x0_000000CC_00000000 = .ok (.rdReg .fbBytes) ∧
      decode Params.vectors .host 0x0_000000D0_00000000 = .ok (.rdReg .bpbBytes) ∧
      decode Params.vectors .host 0x0_000000D4_00000000 = .ok (.rdReg .cols) ∧
      decode Params.vectors .host 0x0_000000D8_00000000 = .ok (.rdReg .rows) ∧
      decode Params.vectors .host 0x0_000000DC_00000000 = .ok (.rdReg .minPeriod) := by decide

/-- R68: codes 0 to 15. -/
theorem test_decode_bcm_phases :
    decode Params.vectors .phase 0b00000 = .ok .idle ∧
      decode Params.vectors .phase 0b00001 = .ok .waitBit ∧
      decode Params.vectors .phase 0b00010 = .ok .blank ∧
      decode Params.vectors .phase 0b00011 = .ok .shiftGo ∧
      decode Params.vectors .phase 0b00100 = .ok .shiftWait ∧
      decode Params.vectors .phase 0b00101 = .ok .latOn ∧
      decode Params.vectors .phase 0b00110 = .ok .latHold ∧
      decode Params.vectors .phase 0b00111 = .ok .latOff ∧
      decode Params.vectors .phase 0b01000 = .ok .setLine ∧
      decode Params.vectors .phase 0b01001 = .ok .startDim ∧
      decode Params.vectors .phase 0b01010 = .ok .waitDim ∧
      decode Params.vectors .phase 0b01011 = .ok .startBit ∧
      decode Params.vectors .phase 0b01100 = .ok .unblank ∧
      decode Params.vectors .phase 0b01101 = .ok .advance ∧
      decode Params.vectors .phase 0b01110 = .ok .vsync ∧
      decode Params.vectors .phase 0b01111 = .ok .prime := by decide

/-- R68: codes 16 to 24. -/
theorem test_decode_line_phases :
    decode Params.vectors .phase 0b10000 = .ok .lIdle ∧
      decode Params.vectors .phase 0b10001 = .ok .lBlank ∧
      decode Params.vectors .phase 0b10010 = .ok .lLatOn ∧
      decode Params.vectors .phase 0b10011 = .ok .lLatHold ∧
      decode Params.vectors .phase 0b10100 = .ok .lLatOff ∧
      decode Params.vectors .phase 0b10101 = .ok .lSetLine ∧
      decode Params.vectors .phase 0b10110 = .ok .lUnblank ∧
      decode Params.vectors .phase 0b10111 = .ok .lStopWait ∧
      decode Params.vectors .phase 0b11000 = .ok .lStopSafe := by decide

/-- R68: the priority decode 1xxx, 01xx, 001x, 0001, 0000. -/
theorem test_decode_handlers :
    decode Params.vectors .lidle 0b1000 = .ok .lStopReq ∧
      decode Params.vectors .lidle 0b1111 = .ok .lStopReq ∧
      decode Params.vectors .lidle 0b0100 = .ok .lDone ∧
      decode Params.vectors .lidle 0b0111 = .ok .lDone ∧
      decode Params.vectors .lidle 0b0010 = .ok .onExpire ∧
      decode Params.vectors .lidle 0b0011 = .ok .onExpire ∧
      decode Params.vectors .lidle 0b0001 = .ok .lineTick ∧
      decode Params.vectors .lidle 0b0000 = .ok .lNop := by decide

/-- R69: codes 0 to 4. -/
theorem test_decode_shifter :
    decode Params.vectors .shphase 0b000 = .ok .shIdle ∧
      decode Params.vectors .shphase 0b001 = .ok .shData ∧
      decode Params.vectors .shphase 0b010 = .ok .shClkhi ∧
      decode Params.vectors .shphase 0b011 = .ok .shClklo ∧
      decode Params.vectors .shphase 0b100 = .ok .shExit := by decide

/-- R76: the row ids 1 to 11; the operand bits above them are the model's own (log 11). -/
theorem test_decode_invoked :
    decode Params.vectors .invoked 1 = .ok .pack ∧
      decode Params.vectors .invoked 0x502 = .ok (.lineSelect 5) ∧
      decode Params.vectors .invoked 0x2203 = .ok (.startTimer .on 8) ∧
      decode Params.vectors .invoked 0x104 = .ok (.disarm .line) ∧
      decode Params.vectors .invoked 0x2D05 = .ok (.shStart true 6 2) ∧
      decode Params.vectors .invoked 6 = .ok .shAbort ∧
      decode Params.vectors .invoked 7 = .ok .tmrCount ∧
      decode Params.vectors .invoked 0x108 = .ok (.tmrMatchOneshot .on) ∧
      decode Params.vectors .invoked 9 = .ok .tmrMatchPeriodic ∧
      decode Params.vectors .invoked 10 = .ok .shStall ∧
      decode Params.vectors .invoked 11 = .ok .reset := by decide

/-- R77: reserved codes are rejected by name. -/
theorem test_decode_rejects :
    decode Params.vectors .phase 25 = .error .reservedPhase ∧
      decode Params.vectors .shphase 5 = .error .reservedShPhase ∧
      decode Params.vectors .invoked 12 = .error .noSuchRow ∧
      decode Params.vectors .invoked 0x101 = .error .badOperand ∧
      decode Params.vectors .phase 32 = .error .tooWide := by decide

theorem test_decodeTableWord :
    decodeTableWord 72 0x1_00000000_00000002 = some .stop ∧ decodeTableWord 8 14 = some .vsync := by decide

/-! ## The first tick after reset runs the operation placed for it -/

theorem test_fetch_host :
    (after (step (State.reset.withFetchWord 72 0x1_00000014_00000080))).brightness = 0x80 := by decide

theorem test_fetch_phase :
    (after (step (State.reset.withFetchWord 8 5))).port.lat = true := by decide

/-! ## One step of every operation -/

/-- R87. -/
theorem test_start :
    (one .start bcm).phase = .prime ∧ (one .start (bcmAt .waitBit)).sticky = { errCmd := true } := by decide

/-- R88, R94. -/
theorem test_stop :
    (one .stop (lineAt .lIdle)).stopReq = true ∧ (one .stop (bcmAt .waitBit)).sticky = { errCmd := true } ∧
      one .stop bcm = bcm := by decide

/-- E5: 1000 Hz is clamped to MIN_PERIOD = 396. -/
theorem test_modeset_refresh :
    (one .modeset { State.reset with stg := { Stg.reset with refresh := 1000 } }).cfg.linePeriod = 396 := by decide

/-- P6, tick 4. -/
theorem test_modeset_nomem :
    (one .modeset { State.resetWith { fbCap := 1024, bpbCap := 1024, tickHz := 1000000 } with
        stg := { Stg.reset with xres := 64, yres := 32, bpp := 8, nLines := 8 } }).sticky = { errNomem := true } := by decide

/-- P6, tick 11. -/
theorem test_cmdReserved :
    (one (.cmdReserved 9) bcm).sticky.word = 0x40 := by decide

/-- R83, example. -/
theorem test_wrStatus :
    (one (.wrStatus 8) { bcm with sticky := { vsync := true, errNomem := true } }).sticky.word = 4 := by decide

/-- R84, example. -/
theorem test_wrIrqEn :
    (one (.wrIrqEn 0xFFFFFFFF) bcm).irqEn.word = 0x5C := by decide

/-- R85, example. -/
theorem test_wrBrightness :
    (one (.wrBrightness 0x180) bcm).brightness = 0x80 := by decide

/-- R89, the widths 16, 16, 8, 16, 16, 16, 8, 8, 3, 32, 32, 16, 32. -/
theorem test_wr_staged_masks :
    (one (.wrXres 0x10021) bcm).stg.xres = 0x21 ∧ (one (.wrYres 0x10011) bcm).stg.yres = 0x11 ∧
      (one (.wrBpp 0x108) bcm).stg.bpp = 8 ∧ (one (.wrRefresh 0x103E8) bcm).stg.refresh = 1000 ∧
      (one (.wrPanelW 0x10040) bcm).stg.panelW = 64 ∧ (one (.wrPanelH 0x10010) bcm).stg.panelH = 16 ∧
      (one (.wrNLines 0x108) bcm).stg.nLines = 8 ∧ (one (.wrNBits 0x105) bcm).stg.nBits = 5 ∧
      (one (.wrFlags 0xFF) bcm).stg.flags = 7 ∧ (one (.wrBcmUnit 0xFFFFFFFF) bcm).stg.bcmUnit = 0xFFFFFFFF ∧
      (one (.wrDimTicks 0xFFFFFFFF) bcm).stg.dimTicks = 0xFFFFFFFF ∧
      (one (.wrLatchHold 0x1FFFF) bcm).stg.latchHold = 0xFFFF ∧
      (one (.wrStopTimeout 0x80000000) bcm).stg.stopTimeout = 0x80000000 := by decide

/-- R92, example. -/
theorem test_fbWr_fbRd :
    (one (.fbRd 0x10005) (one (.fbWr 0x10005 0x1A7) bcm)).rdData = 0xA7 := by decide

/-- R93, example. -/
theorem test_wrIgnored :
    one (.wrIgnored 0x0C 0) bcm = bcm := by decide

/-- R82, example. -/
theorem test_rdUnmapped :
    (one (.rdUnmapped 0x18) { bcm with rdData := 7 }).rdData = 0 := by decide

/-- 95_test_vectors.md 2.1. -/
theorem test_rdReg_reset :
    (one (.rdReg .port) State.reset).rdData = 0x400 ∧ (one (.rdReg .aFlags) State.reset).rdData = 4 ∧
      (one (.rdReg .linePeriod) State.reset).rdData = 4166 ∧ (one (.rdReg .minPeriod) State.reset).rdData = 396 ∧
      (one (.rdReg .status) State.reset).rdData = 0 ∧ (one (.rdReg .scan) State.reset).rdData = 0 := by decide

/-- P1, end state. -/
theorem test_rdReg_scan :
    (one (.rdReg .scan) { bcm with phase := .shiftWait, shPhase := .clkhi, rdBank := true }).rdData = 0x02040100 := by decide

/-- R130. -/
theorem test_idle :
    one .idle bcm = bcm := by decide

/-- R131. -/
theorem test_waitBit :
    (one .waitBit (bcmAt .waitBit)).phase = .blank ∧
      (one .waitBit { bcmAt .waitBit with tBcm := armed }).phase = .waitBit := by decide

/-- R132. -/
theorem test_blank :
    (one .blank { bcmAt .blank with port := { Port.safe with oeN := false } }).port = Port.safe := by decide

/-- R133, R111. -/
theorem test_shiftGo :
    (one .shiftGo { bcm with rdBank := true, line := 1, bit := 1, evDone := true }) =
      { bcm with rdBank := true, line := 1, bit := 1, phase := .shiftWait, shPhase := .data, shBank := true,
                 shLine := 1, shPlane := 1 } := by decide

/-- R134. -/
theorem test_shiftWait :
    (one .shiftWait { bcm with evDone := true }) = { bcm with phase := .latOn } := by decide

/-- R135. -/
theorem test_latOn :
    (one .latOn line2).port.word = 0x600 ∧ (one .latOn line2).dly = 1 := by decide

/-- R136. -/
theorem test_latHold :
    (one .latHold { bcm with dly := 2 }).dly = 1 ∧ (one .latHold bcm).phase = .latOff := by decide

/-- R137. -/
theorem test_latOff :
    (one .latOff { bcm with port := { Port.safe with lat := true } }).port.word = 0x400 := by decide

/-- R120, example. -/
theorem test_setLine :
    (one .setLine { bcm with line := 3 }).port.word = 0x1C00 := by decide

/-- VT2. -/
theorem test_startDim :
    (one .startDim { bcm with cnt := 62 }).tBcm = { cmp := 64, arm := true, ev := false } := by decide

/-- R140. -/
theorem test_waitDim :
    (one .waitDim (bcmAt .waitDim)).phase = .startBit := by decide

/-- VT4. -/
theorem test_startBit_wrap :
    (one .startBit { bcm with cnt := 0xFFFFFFFE }).tBcm = { cmp := 6, arm := true, ev := false } := by decide

/-- R142. -/
theorem test_unblank :
    (one .unblank bcm).port.word = 0 := by decide

/-- R143. -/
theorem test_advance :
    (one .advance bcm).bit = 1 ∧ (one .advance { bcm with bit := 1 }).phase = .vsync ∧
      (one .advance { bcm2 with bit := 1 }).line = 1 := by decide

/-- VP1's frame (95_test_vectors.md 2.3): red 0xC0 and 0x40 in turn, blue 0x80 below. -/
def vp1 : Memory :=
  { fill := .zeros
    cells := [(0, 0xC0), (3, 0x40), (6, 0xC0), (9, 0x40), (12, 0xC0), (15, 0x40), (18, 0xC0), (21, 0x40)] ++
      [(26, 0x80), (29, 0x80), (32, 0x80), (35, 0x80), (38, 0x80), (41, 0x80), (44, 0x80), (47, 0x80)] }

/-- VP1. -/
theorem test_pack_vp1 :
    (List.range 16).map (one .pack { bcm with fb := vp1 }).bpb1.read =
      [1, 1, 1, 1, 1, 1, 1, 1] ++ [0x21, 0x20, 0x21, 0x20, 0x21, 0x20, 0x21, 0x20] := by decide +kernel

/-- VP4. -/
theorem test_pack_vp4 :
    (one .pack { State.reset with
        cfg := validate Params.vectors { Stg.reset with flags := 0b110 }
        fb := { fill := .zeros, cells := [(0, 0x01), (5, 0xC4)] } }).bpb1.cells = [(0, 0x80), (17, 0x23)] := by decide +kernel

/-- VT1, R151. -/
theorem test_prime :
    (one .prime { bcm with phase := .prime, cnt := 28 }).tBcm = { cmp := 28, arm := false, ev := true } ∧
      (one .prime { bcm with phase := .prime }).sticky = { vsync := true } := by decide +kernel

/-- R152. -/
theorem test_vsync :
    (one .vsync (lineAt .vsync)).phase = .lIdle ∧ (one .vsync (lineAt .vsync)).rdBank = false := by decide +kernel

/-- R153. -/
theorem test_lIdle_priority :
    (one .lIdle { lineAt .lIdle with evDone := true, tOn := fired, tLine := fired }).phase = .lBlank ∧
      (one .lIdle { lineAt .lIdle with tOn := fired, tLine := fired }).tOn.ev = false := by decide

/-- R154, R174. -/
theorem test_lStopReq :
    (one .lStopReq { lineAt .lIdle with stopReq := true }).stopCnt = 4096 ∧
      (one .lStopReq (lineAt .lIdle)).tLine = { cmp := 500, arm := false, ev := false } := by decide

/-- R157. -/
theorem test_lDone :
    one .lDone { line2 with evDone := true } = { line2 with phase := .lBlank } := by decide

/-- R155. -/
theorem test_onExpire :
    (one .onExpire { lineAt .lIdle with tOn := fired, port := { Port.safe with oeN := false } }).port = Port.safe := by decide

/-- R156, wrap of two lines. -/
theorem test_lineTick :
    (one .lineTick { lineAt .lIdle with scan := 1 }).phase = .vsync ∧
      (one .lineTick { lineAt .lIdle with scan := 1 }).xferLine = 1 := by decide

/-- R156, R184: the period is skipped. -/
theorem test_lineTick_overrun :
    one .lineTick { lineAt .lIdle with shPhase := .clkhi, tLine := fired } =
      { lineAt .lIdle with shPhase := .clkhi, tLine := { cmp := 0, arm := false, ev := false } } := by decide

/-- R153. -/
theorem test_lNop :
    one .lNop (lineAt .lIdle) = lineAt .lIdle := by decide

/-- R158. -/
theorem test_lBlank :
    (one .lBlank { line2 with port := { Port.safe with oeN := false } }).port = Port.safe := by decide

/-- R159, example: 500*128 div 255 = 250. -/
theorem test_lLatOn :
    (one .lLatOn { State.reset with brightness := 128, cfg := { State.reset.cfg with linePeriod := 500 } }).tOn =
      { cmp := 250, arm := true, ev := false } := by decide

/-- R160. -/
theorem test_lLatHold :
    (one .lLatHold { line2 with dly := 1 }).dly = 0 ∧ (one .lLatHold line2).phase = .lLatOff := by decide

/-- R161. -/
theorem test_lLatOff :
    (one .lLatOff { line2 with port := { Port.safe with lat := true } }).port = Port.safe := by decide

/-- R162, P2 at 1461. -/
theorem test_lSetLine :
    (one .lSetLine { line2 with xferLine := 1 }).port.word = 0xC00 := by decide

/-- R163. -/
theorem test_lUnblank :
    (one .lUnblank line2).port.word = 0 ∧ (one .lUnblank { line2 with tOn := fired }).port.word = 0x400 := by decide

/-- R164. -/
theorem test_lStopWait :
    (one .lStopWait { line2 with phase := .lStopWait, shPhase := .clkhi, stopCnt := 0 }).sticky =
        { stopTimeout := true } ∧
      (one .lStopWait { line2 with shPhase := .clkhi, stopCnt := 5 }).stopCnt = 4 := by decide

/-- R165. -/
theorem test_lStopSafe :
    (one .lStopSafe { line2 with evDone := true, port := { Port.safe with addr := 1, oeN := false } }) =
      { line2 with phase := .idle } := by decide

/-- R112, example. -/
theorem test_shData_rgb :
    (one .shData { bcm with shPhase := .data, bpb0 := { fill := .zeros, cells := [(0, 0x21)] } }).port.word = 0x421 := by decide

/-- VS2: the third bit of 0xA4 is 1. -/
theorem test_shData_mono :
    (one .shData { line2 with
        shPhase := .data, shBit := 5, bpb0 := { fill := .zeros, cells := [(0, 0xA4)] } }).port.word = 0x401 := by decide

/-- R113. -/
theorem test_shClkhi :
    (one .shClkhi bcm).port.word = 0x500 ∧ (one .shClkhi bcm).shPhase = .clklo := by decide

/-- R114. -/
theorem test_shClklo :
    (one .shClklo { bcm with shIdx := 7 }).shPhase = .exit ∧ (one .shClklo { bcm with shIdx := 6 }).shIdx = 7 ∧
      (one .shClklo { line2 with shBit := 7 }).shBit = 6 := by decide

/-- R115. -/
theorem test_shExit :
    (one .shExit { bcm with shPhase := .exit, port := { Port.safe with data := 3 } }) = { bcm with evDone := true } := by decide

/-- R110. -/
theorem test_shIdle :
    one .shIdle bcm = bcm := by decide

/-- R111. -/
theorem test_shStart :
    (one (.shStart true 1 1) { bcm with shIdx := 4, shBit := 2 }).shIdx = 0 ∧ (one (.shStart true 1 1) bcm).shBit = 7 := by decide

/-- R116. -/
theorem test_shAbort :
    (one .shAbort { line2 with
        shPhase := .clklo, evDone := true, shIdx := 3, port := { Port.safe with data := 1, clk := true } }) = line2 := by decide

/-- R117: honoured in the LINE regime only. -/
theorem test_shStall :
    tickOf { txStall := true } { lineAt .lIdle with shPhase := .clkhi } =
        { lineAt .lIdle with shPhase := .clkhi, cnt := 1 } ∧
      (tickOf { txStall := true } { bcm with shPhase := .clkhi }).shPhase = .clklo := by decide

/-- 95_test_vectors.md 2.5. -/
theorem test_lineSelect :
    (List.range 8).map (fun n => (one (.lineSelect (BitVec.ofNat 3 n)) { bcm with port := { Port.safe with oeN := false } }).port.word) =
      [0, 0x800, 0x1000, 0x1800, 0x2000, 0x2800, 0x3000, 0x3800] := by decide

/-- R170. -/
theorem test_tmrCount :
    (one .tmrCount { bcm with cnt := 0xFFFFFFFF }).cnt = 0 := by decide

/-- R171: VT3, and a disarmed channel. -/
theorem test_tmrMatchOneshot :
    (one (.tmrMatchOneshot .bcm) { bcm with cnt := 72, tBcm := { cmp := 73, arm := true, ev := false } }).tBcm =
        { cmp := 73, arm := false, ev := true } ∧
      one (.tmrMatchOneshot .on) { bcm with tOn := { cmp := 1, arm := false, ev := false } } =
        { bcm with tOn := { cmp := 1, arm := false, ev := false } } := by decide

/-- VT5. -/
theorem test_tmrMatchPeriodic :
    (one .tmrMatchPeriodic { State.reset with
        cnt := 567, tLine := { cmp := 568, arm := true, ev := false }, cfg := { State.reset.cfg with linePeriod := 500 } }).tLine = { cmp := 1068, arm := true, ev := true } := by decide

/-- R173. -/
theorem test_startTimer :
    (one (.startTimer .on 1) bcm).tOn = { cmp := 1, arm := false, ev := true } ∧
      (one (.startTimer .line 2) bcm).tLine = { cmp := 2, arm := true, ev := false } := by decide

/-- R174. -/
theorem test_disarm :
    (one (.disarm .on) { bcm with tOn := { cmp := 9, arm := true, ev := true } }).tOn =
      { cmp := 9, arm := false, ev := false } := by decide

/-- R200. -/
theorem test_reset :
    (one .reset (lineAt .lStopWait)).phase = .idle ∧ (one .reset bcm).cfg = State.reset.cfg ∧
      (one .reset bcm).port.word = 0x400 := by decide

/-! ## Ticks in which writes meet (20_memory.md R49) -/

theorem test_set_wins_over_clear :
    (tickOf { hostOp := some (HostWord.write 0x04 4) } (lineAt .vsync)).sticky = { vsync := true } := by decide +kernel

theorem test_match_wins_over_consumer :
    (tickOf {} { lineAt .lIdle with tOn := { cmp := 1, arm := true, ev := true } }).tOn =
      { cmp := 1, arm := false, ev := true } := by decide

theorem test_start_timer_wins :
    (tickOf {} { lineAt .lLatOn with tOn := { cmp := 1, arm := true, ev := false } }).tOn.ev = false := by decide

theorem test_abort_wins_over_exit :
    (tickOf {} { lineAt .lStopWait with shPhase := .exit, tLine := { armed with arm := false } }).evDone = false := by decide

theorem test_pack_takes_the_pre_tick_byte :
    (tickOf { hostOp := some (HostWord.write 0x10000 0xFF) } (lineAt .prime)).bpb0.read 0 = 0 ∧
      (tickOf { hostOp := some (HostWord.write 0x10000 0xFF) } (lineAt .prime)).fb.read 0 = 0xFF := by decide +kernel

/-! ## Host programs -/

/-- R74, E2. -/
theorem test_mode_string :
    (ModeString.parse ['6', '4', 'x', '3', '2', '-', '8', '@', '6', '0']).map ModeString.expand =
      some [HostWord.write 0x20 64, HostWord.write 0x24 32, HostWord.write 0x28 8, HostWord.write 0x2C 60,
        HostWord.write 0x00 3] := by decide

theorem test_mode_string_short :
    (ModeString.parse ['8', 'x', '2']).map ModeString.expand =
        some [HostWord.write 0x20 8, HostWord.write 0x24 2, HostWord.write 0x00 3] ∧
      ModeString.parse ['8', 'x'] = none := by decide

/-- R75. -/
theorem test_script :
    scriptInputs 3 [.command 0 1, .rd 2 0x04, .stall 1 2] =
      [{ hostOp := some (HostWord.write 0 1) }, { txStall := true },
       { hostOp := some (HostWord.read 4), txStall := true }] := by decide

/-- R52. -/
theorem test_observer :
    ((Panel.observe { sr := [1], ol := [], prevClk := false } { Port.safe with data := 5, clk := true, lat := true }).ol) =
      [1, 5] := by decide

/-! ## Witnesses for the hypotheses of the obligations -/

/-- P1's mode with two lines, in the mono format (BCM regime). -/
def monoBcmStg : Stg := { vs2Stg with flags := 0, latchHold := 2 }

/-- A running BCM machine in the mono format, a transfer started. -/
def monoTransfer : State :=
  { State.reset with
    stg := monoBcmStg, cfg := validate Params.vectors monoBcmStg, phase := .shiftWait, shPhase := .data,
    tBcm := fired, rdBank := true, shBank := true, shLine := 1, line := 1,
    bpb1 := { fill := .zeros, cells := [(0, 0xA4), (1, 0x81)] } }

/-- A running BCM machine, a transfer of its last row started. -/
def rgbTransfer : State :=
  { bcmAt .shiftWait with shPhase := .data, shLine := 1, line := 1, shPlane := 1, bit := 1 }

/-- A running LINE machine (VS2's mode, whose row is one byte), a transfer of its line 1 started, stalled in its first
and its 26th tick. -/
def lineTransfer : State :=
  { lineAt .lIdle with
    shPhase := .data, shLine := 1, shBank := true, xferLine := 1, scan := 0
    bpb1 := { fill := .zeros, cells := [(1, 0xA4)] }
    inputs := { txStall := true } :: List.replicate 24 {} ++ [{ txStall := true }] }

/-- A machine whose memories hold exactly what the reset configuration needs. -/
def tight : State := State.resetWith { fbCap := 64, bpbCap := 64, tickHz := 1 }

/-- A pass about to begin, the environment busy. -/
def passState : State :=
  { bcmAt .waitBit with
    line := 1, bit := 1, cnt := 0xFFFFFFF0
    inputs := [{ hostOp := some (HostWord.write 0x00 2), txStall := true }, { txStall := true }] }

/-- A running LINE machine with a stop request and a stalled transfer. -/
def stopState : State :=
  { lineAt .lIdle with
    stopReq := true, shPhase := .clkhi, xferLine := 1, scan := 0, shLine := 1
    inputs := [{ txStall := true }, { hostOp := some (HostWord.write 0x00 2), txStall := true }] }

theorem test_witness_DecodeOfEncode :
    WellFormed Params.vectors (.fbWr 0x10000 0xFFFFFFFF) ∧ WellFormed Params.vectors (.fbRd 0x1FFFF) ∧
      WellFormed Params.vectors (.cmdReserved 0) ∧ WellFormed Params.vectors (.cmdReserved 4) ∧
      WellFormed Params.vectors (.wrIgnored 0x20000 7) ∧ WellFormed Params.vectors (.rdUnmapped 0x18) ∧
      WellFormed Params.vectors (.startTimer .on 0xFFFFFFFF) := by decide

theorem test_witness_EncodeOfDecodedHostWord :
    ((HostWord.read 0x20).rw = false → (HostWord.read 0x20).value = 0) ∧
      ((HostWord.write 0x20 9).rw = false → (HostWord.write 0x20 9).value = 0) := by decide

theorem test_witness_HostDecodingIsTotal :
    ((HostWord.write 0x20000 1).rw = true ∧ (HostWord.write 0x20000 1).addr.toNat ∉ writableOffsets ∧
        ¬ InFbWindow Params.vectors (HostWord.write 0x20000 1).addr) ∧
      ((HostWord.read 0xFFFF).rw = false ∧ (HostWord.read 0xFFFF).addr.toNat ∉ regOffsets ∧
        ¬ InFbWindow Params.vectors (HostWord.read 0xFFFF).addr) := by decide

theorem test_witness_ResetTickRunsReset :
    let s : State := { lineAt .lStopWait with
      inputs := [{ rst := true, hostOp := some (HostWord.write 0 1), txStall := true }] }
    s.input.rst = true := by decide

theorem test_witness_StepRunsControllerOperation :
    ((bcmAt .vsync).input = {} ∧ (bcmAt .vsync).shPhase = .idle ∧ NoMatch (bcmAt .vsync) ∧
        decode (bcmAt .vsync).params .phase (bcmAt .vsync).phase.code.toNat = .ok .vsync) ∧
      ((lineAt .lIdle).input = {} ∧ NoMatch (lineAt .lIdle) ∧
        decode (lineAt .lIdle).params .phase (lineAt .lIdle).phase.code.toNat = .ok .lIdle ∧
        decode (lineAt .lIdle).params .lidle (lineAt .lIdle).lidleWord.toNat = .ok .lNop) := by decide

/-- A write into `FB` in `IDLE`, a stop in a running LINE machine, and a setting in a tick in which the shifter, the
timer and the controller act too. -/
theorem test_witness_StepRunsHostAccess :
    let s : State := { bcm with inputs := [{ hostOp := some (HostWord.write 0x1FFFF 5), txStall := true }] }
    let u : State := { lineAt .lIdle with inputs := [{ hostOp := some (HostWord.write 0x00 2) }] }
    let v : State := { lineAt .lIdle with
      shPhase := .clkhi, cnt := 499, inputs := [{ hostOp := some (HostWord.write 0x14 9) }] }
    (s.input.rst = false ∧ s.input.hostOp = some (HostWord.write 0x1FFFF 5) ∧ s.waits = true ∧
        s.shPhase = .idle ∧ NoMatch s ∧
        decode s.params .host (HostWord.write 0x1FFFF 5).toNat = .ok (.fbWr 0x1FFFF 5)) ∧
      (u.input.rst = false ∧ u.input.hostOp = some (HostWord.write 0x00 2) ∧ u.waits = true ∧
        u.shPhase = .idle ∧ NoMatch u ∧ decode u.params .host (HostWord.write 0x00 2).toNat = .ok .stop) ∧
      (v.input.rst = false ∧ v.input.hostOp = some (HostWord.write 0x14 9) ∧
        decode v.params .host (HostWord.write 0x14 9).toNat = .ok (.wrBrightness 9) ∧
        isNext (step v) = true) := by
  intros
  (repeat' apply And.intro) <;> decide +zetaReduce +kernel

/-- Running machines in `L_IDLE` with a stall, in `SHIFT_WAIT`, and in `WAIT_DIM`. -/
theorem test_witness_StepRunsShifterOperation :
    let s : State := { lineAt .lIdle with shPhase := .clklo, inputs := [{ txStall := true }] }
    let u : State := { bcmAt .shiftWait with shPhase := .exit, inputs := [{ txStall := true }] }
    let v : State := { bcmAt .waitDim with tBcm := armed }
    (Inv { s with port := { s.port with clk := true } } ∧
        s.input.rst = false ∧ s.input.hostOp = none ∧ s.waits = true ∧ NoMatch s ∧
        decode s.params .shphase s.shPhase.code.toNat = .ok .shClklo ∧
        s.input.txStall = true ∧ s.cfg.regime = .line) ∧
      (Inv u ∧ u.input.rst = false ∧ u.input.hostOp = none ∧ u.waits = true ∧ NoMatch u ∧
        decode u.params .shphase u.shPhase.code.toNat = .ok .shExit) ∧
      (v.input.rst = false ∧ v.input.hostOp = none ∧ v.waits = true ∧ NoMatch v ∧
        decode v.params .shphase v.shPhase.code.toNat = .ok .shIdle) := by
  intros
  (repeat' apply And.intro) <;> decide +zetaReduce +kernel

/-- The reserved commands nearest the others. -/
theorem test_witness_CommandMatrix :
    ((0 : Word) ≠ 1 ∧ (0 : Word) ≠ 2 ∧ (0 : Word) ≠ 3) ∧ ((4 : Word) ≠ 1 ∧ (4 : Word) ≠ 2 ∧ (4 : Word) ≠ 3) := by decide

theorem test_witness_ModesetGivesLegalConfiguration :
    tight.params.Legal ∧ (validate tight.params Stg.reset).fbBytes = tight.params.fbCap ∧
      (validate tight.params Stg.reset).bpbBytes = tight.params.bpbCap ∧
      Params.vectors.Legal ∧ (validate Params.vectors p1TwoLines).fbBytes ≤ Params.vectors.fbCap ∧
      (validate Params.vectors p1TwoLines).bpbBytes ≤ Params.vectors.bpbCap := by
  (repeat' apply And.intro) <;> decide +zetaReduce +kernel

theorem test_witness_ValidationIsIdempotent :
    (validate Params.vectors { p1Stg with xres := 65528 }).xres = 65528 ∧
      (validate Params.vectors { p1Stg with xres := 65528 }).yres < 2 ^ 16 := by decide +kernel

theorem test_witness_DurationsDoubleAndFit :
    bcm2.params.Legal ∧ bcm2.cfg.Legal bcm2.params ∧ 0 < bcm2.cfg.nBits ∧ 1 < bcm2.cfg.nBits := by
  (repeat' apply And.intro) <;> decide +zetaReduce +kernel

theorem test_witness_HostMemoryAccess :
    InFbWindow bcm.params 0x10000 ∧ InFbWindow bcm.params 0x1FFFF ∧ InFbWindow tight.params 0x1003F := by decide

theorem test_witness_ActiveRegistersReadTheirFields :
    line2.params.Legal ∧ line2.cfg.Legal line2.params ∧ tight.params.Legal ∧ tight.cfg.Legal tight.params := by
  (repeat' apply And.intro) <;> decide +zetaReduce +kernel

theorem test_witness_HostReadsHaveNoSideEffect :
    (HostWord.read 0x1FFFF).rw = false ∧ (HostWord.read 0x04).rw = false := by decide

/-- Both raises, and a tick that raises nothing. -/
theorem test_witness_StickyFlagsSetWinsOverClear :
    (∃ t, step { lineAt .vsync with inputs := [{ hostOp := some (HostWord.write 0x04 0x5C) }] } = .next t) ∧
      (∃ t, step { lineAt .lStopWait with
          shPhase := .clkhi, stopCnt := 0
          inputs := [{ hostOp := some (HostWord.write 0x04 0x5C), txStall := true }] } = .next t) ∧
      (∃ t, step { bcmAt .advance with inputs := [{ hostOp := some (HostWord.write 0x04 0) }] } = .next t) :=
  ⟨exists_next (by decide +kernel), exists_next (by decide +kernel), exists_next (by decide +kernel)⟩

theorem test_witness_BcmStartingPhases :
    rgbTransfer.bit.toNat < rgbTransfer.cfg.nBits ∧ bcm2.bit.toNat < bcm2.cfg.nBits := by decide

theorem test_witness_BcmPassSchedule : PassBegins passState ∧ PassBegins (bcmAt .waitBit) := by
  (repeat' apply And.intro) <;> decide +zetaReduce +kernel

/-- The first plane, and the last with the counter about to wrap. -/
theorem test_witness_BcmDisplayDuration :
    (Inv (bcmAt .startBit) ∧ NoReset (bcmAt .startBit) ∧ (bcmAt .startBit).phase = .startBit) ∧
      Inv { passState with phase := .startBit } ∧ NoReset { passState with phase := .startBit } := by
  (repeat' apply And.intro) <;> decide +zetaReduce +kernel

theorem test_witness_BcmRegimeNeverStops :
    (Inv (bcmAt .advance) ∧ (bcmAt .advance).input.rst = false ∧ (bcmAt .advance).cfg.regime = .bcm) ∧
      (Inv passState ∧ passState.input.rst = false ∧ passState.cfg.regime = .bcm) := by
  (repeat' apply And.intro) <;> decide +zetaReduce +kernel

theorem test_witness_BcmRegimeNeverStops_step :
    (∃ t, step (bcmAt .advance) = .next t) ∧ ∃ t, step passState = .next t :=
  ⟨exists_next (by decide +kernel), exists_next (by decide +kernel)⟩

/-- Of `PackRebuildsTheOtherBank` and `FrameBoundary`, in both regimes; and a last byte exactly at the capacity. -/
theorem test_witness_PackRebuildsTheOtherBank : PackFits bcm2 ∧ PackFits line2 ∧ PackFits tight := by decide +kernel

theorem test_witness_FrameBoundary : PackFits (bcmAt .vsync) ∧ PackFits (lineAt .prime) := by decide +kernel

/-- The first and the last position of the image, and the byte beyond it. -/
theorem test_witness_PackRebuildsTheOtherBank_clauses :
    (0 < bcm2.cfg.nLines ∧ 1 < bcm2.cfg.nLines ∧ 1 < bcm2.cfg.nBits ∧ 7 < bcm2.cfg.rowLen) ∧
      bcm2.cfg.nLines * bcm2.cfg.nBits * bcm2.cfg.rowLen = 32 ∧ line2.cfg.bpp = .mono := by decide

theorem test_witness_LegalConfigurationNeverFaultsPack : tight.cfg.Legal tight.params := by
  (repeat' apply And.intro) <;> decide +zetaReduce +kernel

theorem test_witness_RepackingGivesEqualBanks :
    ∃ t u, exec .pack (lineAt .vsync) = .next t ∧ exec .pack t = .next u :=
  ⟨one .pack (lineAt .vsync), one .pack (one .pack (lineAt .vsync)),
    next_after (by decide +kernel), next_after (by decide +kernel)⟩

theorem test_witness_RgbPlanesSumToTheChannel :
    (bcm2.cfg.bpp = .rgb ∧ 1 ≤ bcm2.cfg.nBits ∧ bcm2.cfg.nBits ≤ 8) ∧
      (validate Params.vectors { p1Stg with nBits := 8 }).nBits = 8 ∧
      (validate Params.vectors { p1Stg with nBits := 1 }).nBits = 1 := by decide

/-- A frame of ones and one of zeros, in either format. -/
theorem test_witness_UniformFramesPackUniformly :
    (line2.cfg.Legal line2.params ∧ bcm2.cfg.Legal bcm2.params) ∧
      (∀ a, a < line2.cfg.fbBytes →
        ({ fill := .zeros, cells := [(0, 0xFF), (1, 0xFF)] } : Memory).read a = 0xFF) ∧
      (∀ a, a < bcm2.cfg.fbBytes →
        ({ fill := .zeros, cells := (List.range 96).map fun a => (a, 0xFF) } : Memory).read a = 0xFF) ∧
      (∀ a, a < bcm2.cfg.fbBytes → bcm2.fb.read a = 0) ∧
      (1 < line2.cfg.nLines ∧ 0 < line2.cfg.rowLen ∧ 1 < bcm2.cfg.nLines ∧ 7 < bcm2.cfg.rowLen) := by
  (repeat' apply And.intro) <;> decide +zetaReduce +kernel

theorem test_witness_MonoPackingIsABijection :
    (line2.cfg.Legal line2.params ∧ line2.cfg.bpp = .mono) ∧
      (1 < line2.cfg.nLines ∧ 0 < line2.cfg.rowLen ∧ 1 < line2.cfg.fbBytes) := by
  (repeat' apply And.intro) <;> decide +zetaReduce +kernel

theorem test_witness_RgbPackingIsABijection :
    bcm2.cfg.Legal bcm2.params ∧ bcm2.cfg.bpp = .rgb ∧ 0 < bcm2.cfg.fbBytes ∧ 95 < bcm2.cfg.fbBytes := by
  (repeat' apply And.intro) <;> decide +zetaReduce +kernel

/-- Alone, and with the brightness written and a stop requested while the sequence runs. -/
theorem test_witness_LineLatchSchedule :
    let s : State := { lineAt .lIdle with evDone := true, xferLine := 1, scan := 0, cnt := 0xFFFFFFFE }
    let u : State := { s with
      inputs := [{ hostOp := some (HostWord.write 0x14 3) }, { hostOp := some (HostWord.write 0x00 2) }] }
    (Inv s ∧ NoReset s ∧ s.phase = .lIdle ∧ s.stopReq = false ∧ s.evDone = true) ∧ Inv u ∧ NoReset u := by
  intros
  (repeat' apply And.intro) <;> decide +zetaReduce +kernel

theorem test_witness_StopReachesIdle :
    Inv stopState ∧ NoReset stopState ∧ stopState.stopReq = true ∧
      Inv { lineAt .lBlank with stopReq := true } := by
  (repeat' apply And.intro) <;> decide +zetaReduce +kernel

/-- The last byte of the bank. -/
theorem test_witness_ShifterPhases :
    let s : State := { tight with shLine := 3, shIdx := 15 }
    (s.shLine.toNat * s.cfg.nBits + s.shPlane.toNat) * s.cfg.rowLen + s.shIdx.toNat = 63 ∧
      s.params.bpbCap = 64 := by decide +kernel

/-- In the BCM regime either format and its one end, the panel with its clock low; in the LINE regime a transfer that
is stalled in its first and in its last tick. -/
theorem test_witness_TransferSendsTheRow :
    (TransferBegins rgbTransfer ∧ rgbTransfer.shifterTicks 24 + 1 = rgbTransfer.cfg.xferTicks ∧
        rgbTransfer.stallsAt 24 = false) ∧
      (TransferBegins monoTransfer ∧ monoTransfer.shifterTicks 24 + 1 = monoTransfer.cfg.xferTicks ∧
        monoTransfer.stallsAt 24 = false) ∧
      (Panel.observe { sr := [1], ol := [2], prevClk := true } rgbTransfer.port).prevClk = false ∧
      (TransferBegins lineTransfer ∧ lineTransfer.shifterTicks 26 + 1 = lineTransfer.cfg.xferTicks ∧
        lineTransfer.stallsAt 25 = true ∧ lineTransfer.stallsAt 26 = false) := by
  (repeat' apply And.intro) <;> decide +zetaReduce +kernel

/-- 42_shifter.md R118(e) worked: one byte, two stalls, so `24 + 1 + 2` ticks, and VS2's bits. -/
theorem test_transfer_with_stalls :
    ((watch 27 { sr := [], ol := [], prevClk := false } lineTransfer).map fun r =>
        (r.1.sr, r.2.shPhase, r.2.evDone)) = some ([1, 0, 1, 0, 0, 1, 0, 0], .idle, true) := by decide +kernel

/-- The shortest interval across the counter's wrap and the longest, in either waiting phase; a tick on either
channel, one that fires and one that does not. -/
theorem test_witness_OneShotIntervalIsExact :
    let s : State := { bcmAt .waitBit with cnt := 0xFFFFFFFF, tBcm := { cmp := 0, arm := true, ev := false } }
    let u : State := { bcmAt .waitDim with
      cnt := 7, tBcm := { cmp := 6, arm := true, ev := false }, inputs := [{ hostOp := some (HostWord.write 0x00 2) }] }
    let v : State := { lineAt .lLatHold with
      cnt := 7, tOn := { cmp := 8, arm := true, ev := false }, port := { Port.safe with lat := true } }
    (Inv s ∧ NoReset s ∧ s.phase = .waitBit ∧ s.tBcm.arm = true ∧ s.tBcm.cmp = s.cnt + 1 ∧
        1 ≤ (1 : Word).toNat ∧ s.input.rst = false) ∧
      (Inv u ∧ NoReset u ∧ u.phase = .waitDim ∧ u.tBcm.arm = true ∧ u.tBcm.cmp = u.cnt + 0xFFFFFFFF ∧
        u.input.rst = false) ∧
      (Inv v ∧ v.input.rst = false ∧ (v.chan (oneShotChan .on)).arm = true ∧
        (v.chan (oneShotChan .on)).cmp = v.cnt + 1) := by
  intros
  (repeat' apply And.intro) <;> decide +zetaReduce +kernel

theorem test_witness_CounterIsRelative : (bcmAt .startBit).input.rst = false := by decide

/-- Running states of both regimes, host accesses among them. -/
theorem test_witness_InvariantKept :
    Inv rgbTransfer ∧ Inv monoTransfer ∧ Inv passState ∧ Inv stopState ∧ Inv (lineAt .vsync) := by
  (repeat' apply And.intro) <;> decide +zetaReduce +kernel

theorem test_witness_InvariantKept_step :
    (∃ t, step rgbTransfer = .next t) ∧ (∃ t, step stopState = .next t) ∧ ∃ t, step (lineAt .vsync) = .next t :=
  ⟨exists_next (by decide +kernel), exists_next (by decide +kernel), exists_next (by decide +kernel)⟩

theorem test_witness_TickIsTotal : Inv (bcmAt .vsync) ∧ Inv (lineAt .lSetLine) := by
  (repeat' apply And.intro) <;> decide +zetaReduce +kernel

theorem test_witness_IdleIsQuiet : Inv line2 ∧ line2.phase = .idle := by
  (repeat' apply And.intro) <;> decide +zetaReduce +kernel

/-- `LAT` up, about to rise, and about to fall. -/
theorem test_witness_LatchOnlyWhileBlank :
    let up : State := { bcmAt .latHold with port := { Port.safe with lat := true } }
    let falls : State := { lineAt .lLatOff with port := { Port.safe with lat := true } }
    (Inv up ∧ up.port.lat = true) ∧
      (Inv (lineAt .lLatOn) ∧ (lineAt .lLatOn).port.lat = false ∧
        (after (step (lineAt .lLatOn))).port.lat = true) ∧
      (Inv falls ∧ (after (step falls)).port.lat = false ∧ isNext (step (after (step falls))) = true) := by
  intros
  (repeat' apply And.intro) <;> decide +zetaReduce +kernel

theorem test_witness_LatchOnlyWhileBlank_step :
    (∃ t, step (lineAt .lLatOn) = .next t) ∧
      ∃ t, step { lineAt .lLatOff with port := { Port.safe with lat := true } } = .next t :=
  ⟨exists_next (by decide +kernel), exists_next (by decide +kernel)⟩

/-- The clock up, the data wires in use, the shifter active. -/
theorem test_witness_BcmShiftsOnlyWhileBlank :
    let high : State := { rgbTransfer with shPhase := .clklo, port := { Port.safe with clk := true } }
    let driven : State := { rgbTransfer with shPhase := .clkhi, port := { Port.safe with data := 0x3F } }
    (Inv high ∧ high.cfg.regime = .bcm ∧ high.port.clk = true) ∧
      (Inv driven ∧ driven.cfg.regime = .bcm ∧ driven.port.data ≠ 0) ∧
      (Inv rgbTransfer ∧ rgbTransfer.cfg.regime = .bcm ∧ rgbTransfer.shPhase ≠ .idle) := by
  intros
  (repeat' apply And.intro) <;> decide +zetaReduce +kernel

theorem test_witness_AddressChangesOnlyWhileBlank :
    let s : State := { bcmAt .setLine with line := 1 }
    Inv s ∧ s.input.rst = false ∧ (after (step s)).port.addr ≠ s.port.addr ∧ isNext (step s) = true := by
  intros
  (repeat' apply And.intro) <;> decide +zetaReduce +kernel

theorem test_witness_AddressInRange :
    let s : State := { bcmAt .startDim with line := 1, port := { Port.safe with addr := 1 } }
    (Inv s ∧ s.phase ≠ .idle ∧ s.port.addr.toNat + 1 = s.cfg.nLines) ∧ (Inv bcm2 ∧ bcm2.phase = .idle) := by
  intros
  (repeat' apply And.intro) <;> decide +zetaReduce +kernel

/-- `PRIME`, `VSYNC` with a transfer in flight, and another phase. -/
theorem test_witness_BankDiscipline :
    let s : State := { lineAt .vsync with shPhase := .clkhi, shBank := true }
    (Inv s ∧ isNext (step s) = true) ∧ (Inv { bcm2 with phase := .prime } ∧
      isNext (step { bcm2 with phase := .prime }) = true) ∧
      (Inv (lineAt .lUnblank) ∧ isNext (step (lineAt .lUnblank)) = true) := by
  intros
  (repeat' apply And.intro) <;> decide +zetaReduce +kernel

/-- A `MODESET` that changes the configuration, and a write to the last byte of `FB`. -/
theorem test_witness_OnlyTheHostWritesConfigurationAndFramebuffer :
    let s : State := { bcm2 with stg := vs2Stg, inputs := [{ hostOp := some (HostWord.write 0x00 3) }] }
    let u : State := { lineAt .vsync with inputs := [{ hostOp := some (HostWord.write 0x1FFFF 1) }] }
    (isNext (step s) = true ∧ (after (step s)).cfg ≠ s.cfg) ∧
      (isNext (step u) = true ∧ (after (step u)).fb ≠ u.fb) := by decide +kernel

theorem test_witness_FramebufferActsOnlyThroughPack :
    let s : State := { rgbTransfer with inputs := [{ hostOp := some (HostWord.write 0x20000 1) }] }
    s.input.rst = false ∧ s.phase ≠ .prime ∧ s.phase ≠ .vsync ∧
      s.input.hostOp = some (HostWord.write 0x20000 1) ∧
      ¬ InFbWindow s.params (HostWord.write 0x20000 1).addr := by decide

/-- The commands and registers just outside the ones shut out. -/
theorem test_witness_StagedRegistersActOnlyThroughModeset :
    HostWord.write 0x00 1 ≠ HostWord.write 0x00 3 ∧
      ¬ (0x20 ≤ (HostWord.write 0x14 9).addr.toNat ∧ (HostWord.write 0x14 9).addr.toNat ≤ 0x50) ∧
      ¬ (0x20 ≤ (HostWord.read 0x80).addr.toNat ∧ (HostWord.read 0x80).addr.toNat ≤ 0x50) ∧
      HostWord.write 0x14 9 ≠ HostWord.write 0x00 3 ∧ (lineAt .lIdle).input.rst = false := by decide

theorem test_witness_IdleIsLeftOnlyByStart :
    let s : State := { bcm2 with inputs := [{ hostOp := some (HostWord.write 0x00 1) }] }
    (s.phase = .idle ∧ s.input.rst = false ∧ isNext (step s) = true) ∧
      (bcm2.phase = .idle ∧ bcm2.input.rst = false ∧ isNext (step bcm2) = true) := by decide +kernel

end Sys2Proof.Tests
end

section
/-! PROOFS. The reset values of 10_state.md R27: the fields of `State.afterReset` that the frozen laws do not
cover, the register words of the reset state, and the active configuration computed from the reset column. -/

namespace Sys2Proof.Machine

/-! ## The remaining fields of `State.afterReset` -/

@[simp] theorem State.afterReset_dly (s : State) : s.afterReset.dly = 0 := rfl

@[simp] theorem State.afterReset_stopCnt (s : State) : s.afterReset.stopCnt = 0 := rfl

@[simp] theorem State.afterReset_shBank (s : State) : s.afterReset.shBank = false := rfl

@[simp] theorem State.afterReset_shLine (s : State) : s.afterReset.shLine = 0 := rfl

@[simp] theorem State.afterReset_shPlane (s : State) : s.afterReset.shPlane = 0 := rfl

@[simp] theorem State.afterReset_shIdx (s : State) : s.afterReset.shIdx = 0 := rfl

@[simp] theorem State.afterReset_shBit (s : State) : s.afterReset.shBit = 7 := rfl

/-! ## Words and configuration of the reset state -/

/-- The safe state of the port as a word (20_memory.md R48). -/
@[simp] theorem Port.word_safe : Port.safe.word = 0x0400 := by decide

@[simp] theorem StatusBits.word_empty : StatusBits.word {} = 0 := by decide

/-- R90 on the reset column of R21: only the line period depends on the parameters. -/
theorem validate_stgReset (p : Params) :
    validate p Stg.reset =
      { regime := .line, wiring := .vertical, bitrev := false, bpp := .mono, nLines := 4, nBits := 1,
        panelW := 32, panelH := 16, xres := 32, yres := 16, cols := 1, rows := 1, nPanels := 1, rowLen := 16,
        fbBytes := 64, bpbBytes := 64, bcmUnit := 16, dimTicks := 4, latchHold := 1, stopTimeout := 4096,
        refresh := 60, xferTicks := 385, minPeriod := 396, linePeriod := max 396 (p.tickHz / 240) } := rfl

/-- Settles O47: `RESET` answers `afterReset`, whose fields the lemmas above and the frozen laws give. -/
theorem resetValues : Obligations.ResetValues := by
  intro s
  refine ⟨s.afterReset, exec_reset s, ?_⟩
  rw [State.afterReset_cfg, validate_stgReset]
  simp [Stg.reset]

end Sys2Proof.Machine
end

section
/-! PROOFS. The host words of writes (30_encoding.md R60, R70) and what the decoder reads from them. -/

namespace Sys2Proof

/-- R60: the value in the low 32 bits, the address above it, and the write bit on top. -/
theorem HostWord.getLsbD_write (a v : Word) (i : Nat) :
    (HostWord.write a v).getLsbD i =
      if i < 32 then v.getLsbD i else if i < 64 then a.getLsbD (i - 32) else decide (i = 64) := by
  change (1#1 ++ a ++ v).getLsbD i = _
  rw [BitVec.getLsbD_append, BitVec.getLsbD_append]
  by_cases hv : i < 32
  · rw [if_pos hv, if_pos hv]
  · by_cases ha : i < 64
    · rw [if_neg hv, if_neg hv, if_pos ha, if_pos (by omega)]
    · rw [if_neg hv, if_neg hv, if_neg ha, if_neg (by omega), BitVec.getLsbD_one]
      simp only [Nat.zero_lt_one, decide_true, Bool.true_and, decide_eq_decide]
      omega

@[simp] theorem HostWord.rw_write (a v : Word) : (HostWord.write a v).rw = true :=
  HostWord.getLsbD_write a v 64

@[simp] theorem HostWord.addr_write (a v : Word) : (HostWord.write a v).addr = a := by
  refine BitVec.eq_of_getLsbD_eq fun i hi => ?_
  rw [HostWord.addr, BitVec.getLsbD_extractLsb', HostWord.getLsbD_write, if_neg (by omega), if_pos (by omega)]
  simp [hi]

@[simp] theorem HostWord.value_write (a v : Word) : (HostWord.write a v).value = v := by
  refine BitVec.eq_of_getLsbD_eq fun i hi => ?_
  rw [HostWord.value, BitVec.getLsbD_extractLsb', HostWord.getLsbD_write, if_pos (by omega)]
  simp [hi]

theorem decodeHost_write (p : Params) (a v : Word) :
    decodeHost p (HostWord.write a v) = decodeWrite p a v := by
  simp [decodeHost]

theorem decodeHost_write_ctrl (p : Params) (v : Word) :
    decodeHost p (HostWord.write 0x00 v) = decodeCommand v := decodeHost_write p 0x00 v

theorem decodeHost_write_status (p : Params) (v : Word) :
    decodeHost p (HostWord.write 0x04 v) = .wrStatus v := decodeHost_write p 0x04 v

end Sys2Proof
end

section
/-! PROOFS. The sticky flags across a tick (20_memory.md R49, 40_host_commands.md R83): which operations touch
them, what the gathered writes of a tick raise and clear, and the flags as a word. -/

namespace Sys2Proof.Machine

/-! ## Operations that leave the sticky flags alone -/

/-- The writes raise no sticky flag and clear none. -/
abbrev Effect.Silent (e : Effect) : Prop := e.raised = {} ∧ e.cleared = {}

/-- Whatever the operation answers, it neither raises nor clears a sticky flag. -/
abbrev KeepsFlags (i : Instr) (s : State) : Prop := ∀ e, effectOf i s = .ok e → e.Silent

theorem keepsFlags_of_eq_ok {i : Instr} {s : State} {e : Effect} (h : effectOf i s = .ok e) (he : e.Silent) :
    KeepsFlags i s := by
  intro e' h'
  obtain rfl : e = e' := Except.ok.inj (h.symm.trans h')
  exact he

theorem effTmrMatchOneshot_silent (ch : OneShot) (s : State) : (effTmrMatchOneshot ch s).Silent := by
  cases ch <;> exact ⟨rfl, rfl⟩

theorem effTmrMatchPeriodic_silent (s : State) : (effTmrMatchPeriodic s).Silent := by
  unfold effTmrMatchPeriodic
  split <;> exact ⟨rfl, rfl⟩

theorem effShClklo_silent (s : State) : (effShClklo s).Silent := by
  unfold effShClklo
  split
  · exact ⟨rfl, rfl⟩
  · split <;> exact ⟨rfl, rfl⟩

theorem effWaitBit_silent (s : State) : (effWaitBit s).Silent := by
  unfold effWaitBit
  split <;> exact ⟨rfl, rfl⟩

theorem effShiftWait_silent (s : State) : (effShiftWait s).Silent := by
  unfold effShiftWait
  split <;> exact ⟨rfl, rfl⟩

theorem effLatHold_silent (s : State) : (effLatHold s).Silent := by
  unfold effLatHold
  split <;> exact ⟨rfl, rfl⟩

theorem effWaitDim_silent (s : State) : (effWaitDim s).Silent := by
  unfold effWaitDim
  split <;> exact ⟨rfl, rfl⟩

theorem effAdvance_silent (s : State) : (effAdvance s).Silent := by
  unfold effAdvance
  split
  · exact ⟨rfl, rfl⟩
  · split <;> exact ⟨rfl, rfl⟩

theorem effLineTick_silent (s : State) : (effLineTick s).Silent := by
  unfold effLineTick
  split <;> exact ⟨rfl, rfl⟩

theorem effLIdle_silent (s : State) : (effLIdle s).Silent := by
  unfold effLIdle
  split
  case h_4 => exact effLineTick_silent s
  all_goals exact ⟨rfl, rfl⟩

theorem effLLatHold_silent (s : State) : (effLLatHold s).Silent := by
  unfold effLLatHold
  split <;> exact ⟨rfl, rfl⟩

theorem effLUnblank_silent (s : State) : (effLUnblank s).Silent := by
  unfold effLUnblank
  split <;> exact ⟨rfl, rfl⟩

/-- `PACK` touches no flag; `PRIME` and `VSYNC` add the raise themselves. -/
theorem keepsFlags_pack (s : State) : KeepsFlags .pack s := by
  intro e h
  change effPack s = .ok e at h
  unfold effPack at h
  split at h
  · cases h
  · cases h
  · cases h
    exact ⟨rfl, rfl⟩

theorem keepsFlags_shData (s : State) : KeepsFlags .shData s := by
  intro e h
  change effShData s = .ok e at h
  unfold effShData at h
  split at h
  · cases h
    exact ⟨rfl, rfl⟩
  · cases h

/-- The timer touches no sticky flag. -/
theorem keepsFlags_timerOps {i : Instr} (hi : i ∈ timerOps) (s : State) : KeepsFlags i s := by
  simp only [timerOps, List.mem_cons, List.not_mem_nil, or_false] at hi
  obtain rfl | rfl | rfl | rfl := hi
  · exact keepsFlags_of_eq_ok rfl ⟨rfl, rfl⟩
  · exact keepsFlags_of_eq_ok rfl (effTmrMatchOneshot_silent .bcm s)
  · exact keepsFlags_of_eq_ok rfl (effTmrMatchOneshot_silent .on s)
  · exact keepsFlags_of_eq_ok rfl (effTmrMatchPeriodic_silent s)

/-- The shifter touches no sticky flag, stalled or not. -/
theorem keepsFlags_shifterOp (inp : TickIn) (s : State) : KeepsFlags (shifterOp inp s) s := by
  rw [shifterOp_eq]
  split
  · exact keepsFlags_of_eq_ok rfl ⟨rfl, rfl⟩
  · cases s.shPhase with
    | data => exact keepsFlags_shData s
    | clklo => exact keepsFlags_of_eq_ok rfl (effShClklo_silent s)
    | idle | clkhi | exit => exact keepsFlags_of_eq_ok rfl ⟨rfl, rfl⟩

/-! ## What the controller raises -/

/-- The flags the controller raises in its phase (60_exceptions.md R183, R188). -/
def State.raises (s : State) : StatusBits :=
  { vsync := decide (s.phase = .prime ∨ s.phase = .vsync)
    stopTimeout := decide (s.phase = .lStopWait ∧ s.shPhase ≠ .idle ∧ s.stopCnt = 0) }

theorem State.raises_of_vsync {s : State} (h : s.phase = .prime ∨ s.phase = .vsync) :
    s.raises = StickyFlag.vsync.bits := by
  obtain h | h := h <;> simp [State.raises, StickyFlag.bits, h]

theorem State.raises_of_lStopWait {s : State} (h : s.phase = .lStopWait) :
    s.raises = { stopTimeout := decide (s.shPhase ≠ .idle ∧ s.stopCnt = 0) } := by
  simp [State.raises, h]

theorem State.raises_of_other {s : State} (hp : s.phase ≠ .prime) (hv : s.phase ≠ .vsync)
    (hw : s.phase ≠ .lStopWait) : s.raises = {} := by
  simp [State.raises, hp, hv, hw]

theorem effPrime_flags {s : State} {e : Effect} (h : effPrime s = .ok e) :
    e.raised = StickyFlag.vsync.bits ∧ e.cleared = {} := by
  unfold effPrime at h
  split at h
  · cases h
  · rename_i pk hpk
    obtain ⟨hr, hc⟩ := keepsFlags_pack s pk hpk
    cases h
    cases s.cfg.regime <;> simp [hr, hc, Effect.raise, effStartTimer]

theorem effVsync_flags {s : State} {e : Effect} (h : effVsync s = .ok e) :
    e.raised = StickyFlag.vsync.bits ∧ e.cleared = {} := by
  unfold effVsync at h
  split at h
  · cases h
  · rename_i pk hpk
    obtain ⟨hr, hc⟩ := keepsFlags_pack s pk hpk
    cases h
    cases s.cfg.regime <;> simp [hr, hc, Effect.raise]

/-- R164: the timeout is flagged where the transfer is still running with the count used up. -/
theorem effLStopWait_flags (s : State) :
    (effLStopWait s).raised = { stopTimeout := decide (s.shPhase ≠ .idle ∧ s.stopCnt = 0) } ∧
      (effLStopWait s).cleared = {} := by
  unfold effLStopWait
  split
  · rename_i hidle
    simp [hidle]
  · rename_i h
    have hbusy : s.shPhase ≠ .idle := h
    split
    · rename_i hzero
      simp [effShAbort, Effect.raise, StickyFlag.bits, hbusy, hzero]
    · rename_i hleft
      simp [hbusy, show s.stopCnt ≠ 0#32 from hleft]

/-- The phases that neither end a frame nor wait for a stop leave the flags alone. -/
theorem keepsFlags_phaseOp {ph : Phase} (s : State) (hp : ph ≠ .prime) (hv : ph ≠ .vsync)
    (hw : ph ≠ .lStopWait) : KeepsFlags ph.op s := by
  cases ph with
  | prime => exact absurd rfl hp
  | vsync => exact absurd rfl hv
  | lStopWait => exact absurd rfl hw
  | waitBit => exact keepsFlags_of_eq_ok rfl (effWaitBit_silent s)
  | shiftWait => exact keepsFlags_of_eq_ok rfl (effShiftWait_silent s)
  | latHold => exact keepsFlags_of_eq_ok rfl (effLatHold_silent s)
  | waitDim => exact keepsFlags_of_eq_ok rfl (effWaitDim_silent s)
  | advance => exact keepsFlags_of_eq_ok rfl (effAdvance_silent s)
  | lIdle => exact keepsFlags_of_eq_ok rfl (effLIdle_silent s)
  | lLatHold => exact keepsFlags_of_eq_ok rfl (effLLatHold_silent s)
  | lUnblank => exact keepsFlags_of_eq_ok rfl (effLUnblank_silent s)
  | idle | blank | shiftGo | latOn | latOff | setLine | startDim | startBit | unblank | lBlank | lLatOn
  | lLatOff | lSetLine | lStopSafe => exact keepsFlags_of_eq_ok rfl ⟨rfl, rfl⟩

/-- The controller raises exactly `State.raises` and clears nothing. -/
theorem controllerOp_flags {s : State} {e : Effect} (h : effectOf (controllerOp s) s = .ok e) :
    e.raised = s.raises ∧ e.cleared = {} := by
  rw [effectOf_controllerOp] at h
  by_cases hp : s.phase = .prime
  · rw [hp] at h
    rw [State.raises_of_vsync (.inl hp)]
    exact effPrime_flags h
  by_cases hv : s.phase = .vsync
  · rw [hv] at h
    rw [State.raises_of_vsync (.inr hv)]
    exact effVsync_flags h
  by_cases hw : s.phase = .lStopWait
  · rw [hw] at h
    cases h
    rw [State.raises_of_lStopWait hw]
    exact effLStopWait_flags s
  · rw [State.raises_of_other hp hv hw]
    exact keepsFlags_phaseOp s hp hv hw e h

/-! ## The flags of a whole tick -/

/-- An operation that keeps the flags adds nothing to what the others raise and clear. -/
theorem gather_cons_flags {i : Instr} {is : List Instr} {s : State} {e : Effect} (hi : KeepsFlags i s)
    (h : gather (i :: is) s = .ok e) :
    ∃ b, gather is s = .ok b ∧ e.raised = b.raised ∧ e.cleared = b.cleared := by
  obtain ⟨a, b, ha, hb, rfl⟩ := gather_cons_eq_ok_iff.mp h
  obtain ⟨hr, hc⟩ := hi a ha
  exact ⟨b, hb, by simp [hr], by simp [hc]⟩

/-- The same of several operations in front. -/
theorem gather_append_flags {is js : List Instr} {s : State} {e : Effect} (his : ∀ i ∈ is, KeepsFlags i s)
    (h : gather (is ++ js) s = .ok e) :
    ∃ b, gather js s = .ok b ∧ e.raised = b.raised ∧ e.cleared = b.cleared := by
  induction is generalizing e with
  | nil => exact ⟨e, h, rfl, rfl⟩
  | cons i is ih =>
    obtain ⟨b, hb, hr, hc⟩ := gather_cons_flags (his i List.mem_cons_self) h
    obtain ⟨c, hg, hr', hc'⟩ := ih (fun j hj => his j (List.mem_cons_of_mem i hj)) hb
    exact ⟨c, hg, hr.trans hr', hc.trans hc'⟩

/-- A tick raises what its controller and its host access raise, and clears what the host access clears. -/
theorem gather_fetch_flags {inp : TickIn} {s : State} {e : Effect} (h : gather (fetch inp s) s = .ok e) :
    ∃ b, gather (hostOps inp s) s = .ok b ∧ e.raised = s.raises.union b.raised ∧ e.cleared = b.cleared := by
  obtain ⟨a, ha, hr, hc⟩ := gather_append_flags (fun _ hi => keepsFlags_timerOps hi s) h
  obtain ⟨b, hb, hr', hc'⟩ := gather_cons_flags (keepsFlags_shifterOp inp s) ha
  obtain ⟨c, d, hcon, hd, rfl⟩ := gather_cons_eq_ok_iff.mp hb
  obtain ⟨hcr, hcc⟩ := controllerOp_flags hcon
  refine ⟨d, hd, ?_, ?_⟩
  · rw [hr, hr', Effect.join_raised, hcr]
  · rw [hc, hc', Effect.join_cleared, hcc, StatusBits.empty_union]

/-- The sticky flags after a tick that writes `STATUS`. -/
theorem step_sticky_of_write_status {s t : State} {v : Word} (hrst : s.input.rst = false)
    (hop : s.input.hostOp = some (HostWord.write 0x04 v)) (h : step s = .next t) :
    t.sticky = settleSticky s.sticky s.raises (StatusBits.ofWord v) := by
  obtain ⟨hreset, -⟩ | ⟨-, e, he, rfl⟩ := step_eq_next_iff.mp h
  · exact absurd (hreset.symm.trans hrst) (by decide)
  obtain ⟨b, hb, hr, hc⟩ := gather_fetch_flags he
  have hhost : hostOps s.input s.beginTick = [.wrStatus v] := by
    simp only [hostOps, hop, decodeHost_write_status]
  rw [hhost] at hb
  obtain rfl : effWrStatus v = b := by simpa [gather, effectOf] using hb
  have hraises : s.beginTick.raises = s.raises := rfl
  rw [commit_sticky, hr, hc, hraises]
  simp [effWrStatus]

/-! ## The flags as a word -/

/-- R65: the four flags stand at bits 2, 3, 4 and 6, and every other bit is 0. -/
theorem StatusBits.getLsbD_word (b : StatusBits) {i : Nat} (hi : i < 32) :
    b.word.getLsbD i =
      (decide (i = 2) && b.vsync || decide (i = 3) && b.errNomem || decide (i = 4) && b.stopTimeout ||
        decide (i = 6) && b.errCmd) := by
  obtain ⟨v, n, t, c⟩ := b
  revert v n t c
  interval_cases i <;> decide

/-- The mask of the sticky flags in `STATUS`. -/
theorem getLsbD_stickyMask {i : Nat} (hi : i < 32) :
    (0x5C : Word).getLsbD i = (decide (i = 2) || decide (i = 3) || decide (i = 4) || decide (i = 6)) := by
  interval_cases i <;> rfl

/-- R83, bit by bit: cleared where the written value has a 1 in a flag's place, then raised. -/
theorem word_settleSticky_ofWord (old raised : StatusBits) (v : Word) :
    (settleSticky old raised (StatusBits.ofWord v)).word =
      (old.word &&& ~~~(v &&& 0x5C)) ||| raised.word := by
  refine BitVec.eq_of_getLsbD_eq fun i hi => ?_
  rw [BitVec.getLsbD_or, BitVec.getLsbD_and, BitVec.getLsbD_not, BitVec.getLsbD_and, getLsbD_stickyMask hi,
    StatusBits.getLsbD_word _ hi, StatusBits.getLsbD_word _ hi, StatusBits.getLsbD_word _ hi]
  by_cases hflag : i = 2 ∨ i = 3 ∨ i = 4 ∨ i = 6
  · obtain rfl | rfl | rfl | rfl := hflag <;> simp [StatusBits.ofWord, Bool.or_comm]
  · obtain ⟨h2, h3, h4, h6⟩ : i ≠ 2 ∧ i ≠ 3 ∧ i ≠ 4 ∧ i ≠ 6 := by omega
    simp [h2, h3, h4, h6]

theorem State.word_raises (s : State) :
    s.raises.word =
      (if s.phase = .prime ∨ s.phase = .vsync then 0x04 else 0) |||
        (if s.phase = .lStopWait ∧ s.shPhase ≠ .idle ∧ s.stopCnt = 0 then 0x10 else 0) := by
  have hword : ∀ v t : Bool, ({ vsync := v, stopTimeout := t } : StatusBits).word =
      (if v = true then 0x04 else 0) ||| (if t = true then 0x10 else 0) := by decide
  simp only [State.raises, hword, decide_eq_true_eq]

/-- Settles O21: the flags of the tick settle as R49 says, and R83's formula is that as a word. -/
theorem stickyFlagsSetWinsOverClear : Obligations.StickyFlagsSetWinsOverClear := by
  intro s t v hrst hop h
  rw [step_sticky_of_write_status hrst hop h, word_settleSticky_ofWord, State.word_raises, BitVec.or_assoc]

end Sys2Proof.Machine
end

section
/-! PROOFS. The commands of the host (40_host_commands.md R87, R88, R90, R91, R94): the words that select them,
what each does in every state, and what `MODESET` computes. -/

namespace Sys2Proof

/-! ## The command codes -/

/-- R70: every code but 1, 2 and 3 is reserved. -/
theorem decodeCommand_of_ne {v : Word} (h1 : v ≠ 1) (h2 : v ≠ 2) (h3 : v ≠ 3) :
    decodeCommand v = .cmdReserved v := by
  unfold decodeCommand
  split
  · exact absurd (BitVec.eq_of_toNat_eq ‹_›) h1
  · exact absurd (BitVec.eq_of_toNat_eq ‹_›) h2
  · exact absurd (BitVec.eq_of_toNat_eq ‹_›) h3
  · rfl

/-- R60, R70: the words that select the three commands. -/
theorem decodeHost_write_commands (p : Params) :
    decodeHost p (HostWord.write 0x00 1) = .start ∧ decodeHost p (HostWord.write 0x00 2) = .stop ∧
      decodeHost p (HostWord.write 0x00 3) = .modeset :=
  ⟨decodeHost_write_ctrl p 1, decodeHost_write_ctrl p 2, decodeHost_write_ctrl p 3⟩

theorem decodeHost_write_reserved (p : Params) {v : Word} (h1 : v ≠ 1) (h2 : v ≠ 2) (h3 : v ≠ 3) :
    decodeHost p (HostWord.write 0x00 v) = .cmdReserved v :=
  (decodeHost_write_ctrl p v).trans (decodeCommand_of_ne h1 h2 h3)

end Sys2Proof

namespace Sys2Proof.Machine

/-! ## The commands by themselves -/

/-- A refused command changes nothing but the flag. -/
theorem commit_raise_eq (s : State) (f : StickyFlag) : commit s (Effect.raise f) = s.raise f := commit_raise s f

/-- R65: no stop is pending or under way. -/
theorem State.busy_eq_false_iff (s : State) :
    s.busy = false ↔ s.stopReq = false ∧ s.phase ≠ .lStopWait ∧ s.phase ≠ .lStopSafe := by
  simp [State.busy, and_assoc]

theorem Cfg.fits_iff (p : Params) (c : Cfg) :
    c.fits p = true ↔ c.fbBytes ≤ p.fbCap ∧ c.bpbBytes ≤ p.bpbCap := by
  simp [Cfg.fits]

/-- `START` (R87). -/
theorem exec_start (s : State) :
    exec .start s = .next
      (if s.phase = .idle then { s with phase := .prime, line := 0, bit := 0, scan := 0 }
       else s.raise .errCmd) := by
  change Host.Outcome.next (commit s (effStart s)) = _
  unfold effStart
  split
  · rfl
  · rw [commit_raise_eq]

/-- `STOP` (R88). -/
theorem exec_stop (s : State) :
    exec .stop s = .next
      (if s.phase = .idle then s
       else if s.cfg.regime = .line ∧ s.busy = false then { s with stopReq := true }
       else s.raise .errCmd) := by
  change Host.Outcome.next (commit s (effStop s)) = _
  unfold effStop
  split
  · rfl
  · split
    · rfl
    · rw [commit_raise_eq]

/-- `MODESET` (R90). -/
theorem exec_modeset (s : State) :
    exec .modeset s = .next
      (if s.phase ≠ .idle then s.raise .errCmd
       else if (validate s.params s.stg).fits s.params = true then { s with cfg := validate s.params s.stg }
       else s.raise .errNomem) := by
  change Host.Outcome.next (commit s (effModeset s)) = _
  unfold effModeset
  split
  · rw [commit_raise_eq]
  · split
    · rfl
    · rw [commit_raise_eq]

/-- A reserved code (R91). -/
theorem exec_cmdReserved (v : Word) (s : State) : exec (.cmdReserved v) s = .next (s.raise .errCmd) :=
  congrArg Host.Outcome.next (commit_raise_eq s .errCmd)

/-! ## What `MODESET` computes -/

/-- `clamp` between bounds in order, as the larger of the lower bound and the smaller of the others. -/
theorem clampTo_eq_max_min (v : Nat) {lo hi : Nat} (h : lo ≤ hi) : clampTo v lo hi = max lo (min v hi) := by
  unfold clampTo
  split
  · omega
  · split <;> omega

section
variable (p : Params) (g : Stg)

theorem validate_regime_eq_line_iff : (validate p g).regime = .line ↔ g.flags.getLsbD 2 = true := by
  change (match g.flags.getLsbD 2 with | true => Regime.line | false => Regime.bcm) = .line ↔ _
  cases g.flags.getLsbD 2 <;> decide

theorem validate_wiring_eq_horizontal_iff :
    (validate p g).wiring = .horizontal ↔ g.flags.getLsbD 0 = true := by
  change (match g.flags.getLsbD 0 with | true => Wiring.horizontal | false => Wiring.vertical) = .horizontal ↔ _
  cases g.flags.getLsbD 0 <;> decide

theorem validate_nLines : (validate p g).nLines = max 1 (min g.nLines.toNat 8) :=
  clampTo_eq_max_min g.nLines.toNat (by decide)

theorem validate_nLines_le : (validate p g).nLines ≤ 8 := by
  rw [validate_nLines]
  omega

theorem validate_bpp_eq_mono_iff : (validate p g).bpp = .mono ↔ g.bpp.toNat ≤ 1 := by
  change (if g.bpp.toNat ≤ 1 then PixelFormat.mono else .rgb) = .mono ↔ _
  split <;> simp [*]

theorem validate_nBits :
    (validate p g).nBits =
      if (validate p g).regime = .line ∨ (validate p g).bpp = .mono then 1
      else max 1 (min g.nBits.toNat 8) := by
  rw [← clampTo_eq_max_min g.nBits.toNat (by decide : 1 ≤ 8)]
  rfl

theorem validate_panelW :
    (validate p g).panelW = (max 8 (min g.panelW.toNat 1024) + 7) / 8 * 8 := by
  rw [← clampTo_eq_max_min g.panelW.toNat (by decide : 8 ≤ 1024)]
  rfl

/-- R90: an RGB panel has two scanned rows to a line; the height of a mono panel is rounded up to whole lines. -/
theorem validate_panelH :
    (validate p g).panelH =
      match (validate p g).bpp with
      | .rgb => 2 * (validate p g).nLines
      | .mono =>
        (max (validate p g).nLines (min g.panelH.toNat 1024) + (validate p g).nLines - 1) /
          (validate p g).nLines * (validate p g).nLines := by
  have hle : (validate p g).nLines ≤ 1024 := (validate_nLines_le p g).trans (by decide)
  rw [← clampTo_eq_max_min g.panelH.toNat hle]
  rfl

theorem validate_bcmUnit : (validate p g).bcmUnit = max 4 (min g.bcmUnit.toNat (2 ^ 24 - 1)) :=
  clampTo_eq_max_min g.bcmUnit.toNat (by decide)

theorem validate_dimTicks : (validate p g).dimTicks = min g.dimTicks.toNat (2 ^ 24 - 1) :=
  (clampTo_eq_max_min g.dimTicks.toNat (by decide)).trans (Nat.zero_max _)

/-- R22: three shifter ticks to a byte of an RGB row, twenty-four to a byte of a mono row. -/
theorem PixelFormat.perByte_eq (b : PixelFormat) : b.perByte = match b with | .rgb => 3 | .mono => 24 := by
  cases b <;> rfl

theorem validate_xferTicks :
    (validate p g).xferTicks =
      (match (validate p g).bpp with | .rgb => 3 | .mono => 24) * (validate p g).rowLen + 1 :=
  congrArg (· * (validate p g).rowLen + 1) (PixelFormat.perByte_eq (validate p g).bpp)

/-- Sixteen staged bits never exceed the upper bound. -/
theorem validate_refresh : (validate p g).refresh = max 1 g.refresh.toNat := by
  have hle : g.refresh.toNat ≤ 65535 := Nat.le_of_lt_succ g.refresh.isLt
  refine (clampTo_eq_max_min g.refresh.toNat (by decide)).trans ?_
  rw [Nat.min_eq_left hle]

end

/-- Settles O10: the words decode, each command by itself does what its lemma says, and the fields of the
computed configuration that are no clamp or bit of `FLAGS` are R90's own definitions. -/
theorem commandMatrix : Obligations.CommandMatrix := by
  intro s
  refine ⟨decodeHost_write_commands s.params, exec_start s, ?_, ?_,
    fun v h1 h2 h3 => ⟨decodeHost_write_reserved s.params h1 h2 h3, exec_cmdReserved v s⟩, ?_⟩
  · simp only [exec_stop, State.busy_eq_false_iff]
  · simp only [exec_modeset, Cfg.fits_iff]
  · exact ⟨validate_regime_eq_line_iff _ _, rfl, validate_wiring_eq_horizontal_iff _ _, validate_nLines _ _,
      validate_bpp_eq_mono_iff _ _, validate_nBits _ _, validate_panelW _ _, validate_panelH _ _, rfl, rfl,
      rfl, rfl, rfl, rfl, rfl, rfl, validate_bcmUnit _ _, validate_dimTicks _ _, rfl, rfl,
      validate_refresh _ _, validate_xferTicks _ _, rfl, rfl⟩

end Sys2Proof.Machine
end

section
/-! PROOFS. The bytes `PACK` reads and writes exist in every legal configuration (10_state.md R22; 41_packer.md
R100, R101): the offsets of rows, pixels and mono bytes are digits of mixed-radix numbers, each digit below its
radix. -/

namespace Sys2Proof.Machine

/-- A two-digit number is below the product of the radices. -/
theorem twoDigits_lt {a b m n : Nat} (ha : a < m) (hb : b < n) : a * n + b < m * n :=
  calc a * n + b < a * n + n := Nat.add_lt_add_left hb _
    _ = (a + 1) * n := (Nat.succ_mul a n).symm
    _ ≤ m * n := Nat.mul_le_mul_right n ha

/-- R104: a position of the chain names a panel of the display. -/
theorem panelOf_lt {c : Cfg} {p : Nat} (hp : p < c.cols * c.rows) :
    (panelOf c p).1 < c.cols ∧ (panelOf c p).2 < c.rows := by
  have hcols : 0 < c.cols := Nat.pos_of_lt_mul_right hp
  have hrows : 0 < c.rows := Nat.pos_of_lt_mul_left hp
  unfold panelOf
  cases c.wiring with
  | vertical => exact ⟨Nat.div_lt_of_lt_mul (Nat.mul_comm c.cols c.rows ▸ hp), Nat.mod_lt _ hrows⟩
  | horizontal => exact ⟨Nat.mod_lt _ hcols, Nat.div_lt_of_lt_mul hp⟩

/-! ## The bytes of the bank -/

theorem bpbOff_lt {c : Cfg} {l k i : Nat} (hl : l < c.nLines) (hk : k < c.nBits) (hi : i < c.rowLen) :
    bpbOff c l k i < c.nLines * c.nBits * c.rowLen := twoDigits_lt (twoDigits_lt hl hk) hi

theorem packWritesExist_of_legal {p : Params} {c : Cfg} (hc : c.Legal p) : packWritesExist p c = true := by
  obtain ⟨-, -, -, -, -, ⟨-, -, -, hbytes, -, hcap⟩, -, -⟩ := hc
  simp only [packWritesExist, List.all_eq_true, List.mem_range, decide_eq_true_eq]
  intro l hl k hk i hi
  calc bpbOff c l k i < c.nLines * c.nBits * c.rowLen := bpbOff_lt hl hk hi
    _ = c.bpbBytes := hbytes.symm
    _ ≤ p.bpbCap := hcap

/-! ## The bytes of the framebuffer -/

theorem rgbCol_lt {c : Cfg} {i : Nat} (hi : i < c.panelW * (c.cols * c.rows)) :
    rgbCol c i < c.cols * c.panelW :=
  twoDigits_lt (panelOf_lt (Nat.div_lt_of_lt_mul hi)).1 (Nat.mod_lt _ (Nat.pos_of_lt_mul_right hi))

theorem pixelOff_lt {c : Cfg} {x y ch : Nat} (hx : x < c.xres) (hy : y < c.yres) (hch : ch < 3) :
    pixelOff c x y ch < 3 * c.xres * c.yres := by
  have h := twoDigits_lt (twoDigits_lt hy hx) hch
  have hsize : c.yres * c.xres * 3 = 3 * c.xres * c.yres := by ring
  unfold pixelOff
  omega

/-- R102: an RGB panel is two half panels high, and a byte holds a pixel of each. -/
theorem rgbRow_add_nLines_lt {c : Cfg} {l i : Nat} (hh : c.panelH = 2 * c.nLines) (hl : l < c.nLines)
    (hi : i < c.panelW * (c.cols * c.rows)) : rgbRow c l i + c.nLines < c.rows * c.panelH := by
  have hlow : l + c.nLines < c.panelH := by omega
  have h := twoDigits_lt (panelOf_lt (Nat.div_lt_of_lt_mul hi)).2 hlow
  unfold rgbRow
  omega

/-- R103: a mono row of `groups` lines of `bpr` bytes to a panel; the byte lies in its panel's row and column. -/
theorem monoOff_lt {c : Cfg} {l i bpr groups : Nat} (hw : c.panelW = 8 * bpr) (hh : c.panelH = c.nLines * groups)
    (hx : c.xres = c.cols * c.panelW) (hl : l < c.nLines) (hi : i < groups * bpr * (c.cols * c.rows)) :
    monoOff c l i < c.rows * c.panelH * (c.cols * bpr) := by
  have hbpr : c.panelW / 8 = bpr := by omega
  have hgroups : c.panelH / c.nLines = groups := hh ▸ Nat.mul_div_cancel_left groups (Nat.zero_lt_of_lt hl)
  have hxb : c.xres / 8 = c.cols * bpr := by
    rw [hx, hw, Nat.mul_left_comm, Nat.mul_div_cancel_left _ (by decide)]
  have hppb : 0 < groups * bpr := Nat.pos_of_lt_mul_right hi
  have hpos : 0 < bpr := Nat.pos_of_mul_pos_left hppb
  obtain ⟨hcol, hrow⟩ := panelOf_lt (Nat.div_lt_of_lt_mul hi)
  have hgroup : i % (groups * bpr) / bpr < groups :=
    Nat.div_lt_of_lt_mul (Nat.mul_comm groups bpr ▸ Nat.mod_lt i hppb)
  have hline := twoDigits_lt hgroup hl
  have hy := twoDigits_lt hrow (hline.trans_eq ((Nat.mul_comm groups c.nLines).trans hh.symm))
  rw [← Nat.add_assoc] at hy
  simp only [monoOff, hbpr, hgroups, hxb]
  exact twoDigits_lt hy (twoDigits_lt hcol (Nat.mod_lt i hpos))

theorem packReadsExist_of_legal {p : Params} {c : Cfg} (hc : c.Legal p) : packReadsExist p c = true := by
  obtain ⟨⟨hlines, -⟩, -, ⟨-, -, hw8⟩, ⟨hrgbH, hmonoH⟩, ⟨hx, hy, -, -, hpanels⟩,
    ⟨hrgb, hmono, -, -, hcap, -⟩, -, -⟩ := hc
  simp only [packReadsExist, List.all_eq_true, List.mem_range, decide_eq_true_eq]
  intro l hl i hi a ha
  refine Nat.lt_of_lt_of_le ?_ hcap
  unfold imageReads at ha
  split at ha
  case h_1 hbpp =>
    obtain ⟨hrow, hbytes⟩ := hrgb hbpp
    have hi' : i < c.panelW * (c.cols * c.rows) := by rwa [hrow, hpanels] at hi
    have hcol : rgbCol c i < c.xres := hx ▸ rgbCol_lt hi'
    have hlower : rgbRow c l i + c.nLines < c.yres := hy ▸ rgbRow_add_nLines_lt (hrgbH hbpp) hl hi'
    have hupper : rgbRow c l i < c.yres := by omega
    rw [hbytes]
    simp only [List.mem_cons, List.not_mem_nil, or_false] at ha
    obtain rfl | rfl | rfl | rfl | rfl | rfl := ha
    · exact pixelOff_lt hcol hupper (by decide)
    · exact pixelOff_lt hcol hupper (by decide)
    · exact pixelOff_lt hcol hupper (by decide)
    · exact pixelOff_lt hcol hlower (by decide)
    · exact pixelOff_lt hcol hlower (by decide)
    · exact pixelOff_lt hcol hlower (by decide)
  case h_2 hbpp =>
    obtain ⟨hrow, hbytes⟩ := hmono hbpp
    obtain ⟨bpr, hw⟩ := Nat.dvd_of_mod_eq_zero hw8
    obtain ⟨groups, hh⟩ := Nat.dvd_of_mod_eq_zero (hmonoH hbpp).1
    have hlen : c.rowLen = groups * bpr * (c.cols * c.rows) := by
      have hsize : c.panelW * c.panelH * c.nPanels = 8 * c.nLines * (groups * bpr * (c.cols * c.rows)) := by
        rw [hw, hh, hpanels]
        ring
      rw [hrow, hsize, Nat.mul_div_cancel_left _ (by omega)]
    have hfb : c.fbBytes = c.rows * c.panelH * (c.cols * bpr) := by
      have hsize : c.xres * c.yres = 8 * (c.rows * c.panelH * (c.cols * bpr)) := by
        rw [hx, hy, hw]
        ring
      rw [hbytes, hsize, Nat.mul_div_cancel_left _ (by decide)]
    simp only [List.mem_cons, List.not_mem_nil, or_false] at ha
    rw [ha, hfb]
    exact monoOff_lt hw hh hx hl (hlen ▸ hi)

/-- Log 14: under a legal configuration `PACK` does not fault. -/
theorem packFits_of_legal {s : State} (hc : s.cfg.Legal s.params) : PackFits s :=
  ⟨packReadsExist_of_legal hc, packWritesExist_of_legal hc⟩

end Sys2Proof.Machine
end

section
/-! PROOFS. The display duration law (44_bcm_sequencer.md R146): what a tick in which the controller alone acts
does to the phase, the BCM channel and `OE_N`, how many ticks the channel still has to its event, and the lit
ticks that are left from each phase on, counted back from the tick that blanks. -/

namespace Sys2Proof.Machine

/-! ## The writes that displaying a plane depends on -/

/-- The writes to the phase, the configuration, `OE_N`, the counter and channel BCM, and those that start or move
the shifter. -/
def Effect.core (e : Effect) : Effect :=
  { phase := e.phase, cfg := e.cfg, oeN := e.oeN, cnt := e.cnt, tBcm := e.tBcm, shPhase := e.shPhase
    shStart := e.shStart, shAbort := e.shAbort }

/-- The writes touch none of what `Effect.core` keeps. -/
abbrev Effect.Aside (e : Effect) : Prop := e.core = {}

theorem Effect.core_join (a b : Effect) : (a.join b).core = a.core.join b.core := rfl

theorem Effect.core_join_of_aside {a : Effect} (ha : a.Aside) (b : Effect) : (a.join b).core = b.core := by
  rw [Effect.core_join, ha, Effect.empty_join]

theorem Effect.core_join_aside (a : Effect) {b : Effect} (hb : b.Aside) : (a.join b).core = a.core := by
  rw [Effect.core_join, hb, Effect.join_empty]

/-! ## What the host and the other timer channels leave alone -/

theorem effTmrMatchOneshot_on_aside (s : State) : (effTmrMatchOneshot .on s).Aside := rfl

theorem effTmrMatchPeriodic_aside (s : State) : (effTmrMatchPeriodic s).Aside := by
  unfold effTmrMatchPeriodic
  split <;> rfl

/-- R94: a running machine refuses `START`. -/
theorem effStart_aside {s : State} (h : s.phase ≠ .idle) : (effStart s).Aside := by
  simp only [effStart, if_neg h]
  rfl

theorem effStop_aside (s : State) : (effStop s).Aside := by
  unfold effStop
  split
  · rfl
  · split <;> rfl

/-- R94: a running machine refuses `MODESET`. -/
theorem effModeset_aside {s : State} (h : s.phase ≠ .idle) : (effModeset s).Aside := by
  simp only [effModeset, if_pos h]
  rfl

theorem effFbWr_aside (addr value : Word) (s : State) : (effFbWr addr value s).Aside := by
  unfold effFbWr
  split <;> rfl

theorem effFbRd_aside (addr : Word) (s : State) : (effFbRd addr s).Aside := by
  unfold effFbRd
  split <;> rfl

theorem effectOf_decodeCommand_aside (v : Word) {s : State} (h : s.phase ≠ .idle) :
    ∃ e, effectOf (decodeCommand v) s = .ok e ∧ e.Aside := by
  unfold decodeCommand
  split
  · exact ⟨_, rfl, effStart_aside h⟩
  · exact ⟨_, rfl, effStop_aside s⟩
  · exact ⟨_, rfl, effModeset_aside h⟩
  · exact ⟨_, rfl, rfl⟩

theorem effectOf_decodeWrite_aside (p : Params) (addr value : Word) {s : State} (h : s.phase ≠ .idle) :
    ∃ e, effectOf (decodeWrite p addr value) s = .ok e ∧ e.Aside := by
  unfold decodeWrite
  split
  case h_1 => exact effectOf_decodeCommand_aside value h
  case h_18 =>
    split
    · exact ⟨_, rfl, effFbWr_aside addr value s⟩
    · exact ⟨_, rfl, rfl⟩
  all_goals exact ⟨_, rfl, rfl⟩

theorem effectOf_decodeRead_aside (p : Params) (addr : Word) (s : State) :
    ∃ e, effectOf (decodeRead p addr) s = .ok e ∧ e.Aside := by
  unfold decodeRead
  split
  · exact ⟨_, rfl, rfl⟩
  · split
    · exact ⟨_, rfl, effFbRd_aside addr s⟩
    · exact ⟨_, rfl, rfl⟩

/-- The host access of a tick of a running machine, if there is one. -/
theorem gather_hostOps_aside (inp : TickIn) {s : State} (h : s.phase ≠ .idle) :
    ∃ e, gather (hostOps inp s) s = .ok e ∧ e.Aside := by
  unfold hostOps
  split
  case h_1 w _ =>
    have hop : ∃ e, effectOf (decodeHost s.params w) s = .ok e ∧ e.Aside := by
      unfold decodeHost
      split
      · exact effectOf_decodeWrite_aside _ _ _ h
      · exact effectOf_decodeRead_aside _ _ s
    obtain ⟨e, he, hcore⟩ := hop
    exact ⟨e.join {}, gather_cons_ok he rfl, (Effect.join_empty e).symm ▸ hcore⟩
  case h_2 => exact ⟨{}, rfl, rfl⟩

/-! ## A tick with the shifter idle -/

theorem shifterOp_of_idle (inp : TickIn) {s : State} (h : s.shPhase = .idle) : shifterOp inp s = .shIdle := by
  rw [shifterOp_eq, if_neg (by simp [stalled, h]), h]
  rfl

/-- Of the writes of such a tick those of `Effect.core` are the counter's, the match of channel BCM and the
controller's. -/
theorem gather_fetch_core (inp : TickIn) {s : State} (hrun : s.phase ≠ .idle) (hsh : s.shPhase = .idle)
    {c : Effect} (hc : effectOf s.phase.op s = .ok c) :
    ∃ e, gather (fetch inp s) s = .ok e ∧
      e.core = (effTmrCount s).join ((effTmrMatchOneshot .bcm s).join c.core) := by
  obtain ⟨h, hh, haside⟩ := gather_hostOps_aside inp hrun
  rw [fetch_eq, shifterOp_of_idle inp hsh]
  refine ⟨_, gather_cons_ok rfl (gather_cons_ok rfl (gather_cons_ok rfl (gather_cons_ok rfl
    (gather_cons_ok rfl (gather_cons_ok ((effectOf_controllerOp s).trans hc) hh))))), ?_⟩
  rw [Effect.core_join, Effect.core_join, Effect.core_join_of_aside (effTmrMatchOneshot_on_aside s),
    Effect.core_join_of_aside (effTmrMatchPeriodic_aside s), Effect.core_join_of_aside rfl,
    Effect.core_join_aside c haside]
  rfl

/-- What keeps a plane on display for its whole duration: no reset is to come, the regime is BCM, the shifter is
idle, and the frame boundary cannot fault. -/
structure Displaying (s : State) : Prop where
  noReset : NoReset s
  regime : s.cfg.regime = .bcm
  packFits : PackFits s
  shIdle : s.shPhase = .idle

theorem NoReset.input {s : State} (h : NoReset s) : s.input.rst = false := by
  unfold State.input
  cases hin : s.inputs with
  | nil => rfl
  | cons inp rest => exact h inp (hin ▸ List.mem_cons_self)

/-- One tick on display, where the controller writes only the phase, `OE_N` and channel BCM. -/
theorem Displaying.tick {s : State} (hs : Displaying s) (hrun : s.phase ≠ .idle) {c : Effect} {ph : Phase}
    {oe : Option Bool} {r : ChanReq} (hc : effectOf s.phase.op s.beginTick = .ok c)
    (hcore : c.core = { phase := some ph, oeN := oe, tBcm := r }) :
    ∃ t, step s = .next t ∧ Displaying t ∧ t.phase = ph ∧ t.port.oeN = oe.getD s.port.oeN ∧
      t.cnt = s.cnt + 1 ∧ t.tBcm = settleChan s.cnt s.tBcm ((oneshotReq s.cnt s.tBcm).join r) := by
  obtain ⟨e, he, hwrites⟩ := gather_fetch_core s.input (s := s.beginTick) hrun hs.shIdle hc
  rw [hcore] at hwrites
  have hcfg : e.cfg = none := congrArg Effect.cfg hwrites
  have hshStart : e.shStart = none := congrArg Effect.shStart hwrites
  have hshAbort : e.shAbort = false := congrArg Effect.shAbort hwrites
  have hshPhase : e.shPhase = none := congrArg Effect.shPhase hwrites
  have hphase : e.phase = some ph := congrArg Effect.phase hwrites
  have hoeN : e.oeN = oe := congrArg Effect.oeN hwrites
  have hcnt : e.cnt = some (s.cnt + 1) := congrArg Effect.cnt hwrites
  have htBcm : e.tBcm = (oneshotReq s.cnt s.tBcm).join r := by
    rw [← ChanReq.empty_join (ChanReq.join _ _)]
    exact congrArg Effect.tBcm hwrites
  have hsame : (commit s.beginTick e).cfg = s.cfg := by simp [hcfg]
  refine ⟨commit s.beginTick e, ?_, ⟨?_, ?_, ?_, ?_⟩, ?_, ?_, ?_, ?_⟩
  · rw [step_tick hs.noReset.input, he, solo_ok]
  · exact fun inp hinp => hs.noReset inp (List.mem_of_mem_tail hinp)
  · rw [hsame, hs.regime]
  · rw [PackFits, hsame, commit_params]
    exact hs.packFits
  · simp [settleShPhase, hshAbort, hshStart, hshPhase, hs.shIdle]
  · simp [hphase]
  · simp [hoeN]
  · simp [hcnt]
  · simp [htBcm]

/-! ## The ticks left to the event of a channel -/

/-- `n` ticks from now the channel's event is there: it is there already, or the channel matches in the last of
these ticks (46_timer.md R171, R173). -/
def Channel.DueIn (cnt : Word) (c : Channel) : Nat → Prop
  | 0 => c.ev = true
  | n + 1 => n + 1 < 2 ^ 32 ∧ c = { cmp := cnt + BitVec.ofNat 32 (n + 1), arm := true, ev := false }

theorem oneshotReq_start (cnt : Word) (c : Channel) : (oneshotReq cnt c).start = none := by
  unfold oneshotReq
  split <;> rfl

/-- A compare value seen from the next count. -/
theorem add_one_add_ofNat (cnt : Word) (n : Nat) :
    cnt + 1 + BitVec.ofNat 32 (n + 1) = cnt + BitVec.ofNat 32 (n + 2) := by
  have hsum : BitVec.ofNat 32 1 + BitVec.ofNat 32 (n + 1) = BitVec.ofNat 32 (n + 2) := by
    rw [← BitVec.ofNat_add, Nat.add_comm 1 (n + 1)]
  exact (BitVec.add_assoc cnt _ _).trans (congrArg (cnt + ·) hsum)

/-- R175: within a turn of the counter the compare value is met once. -/
theorem chanMatches_armed (cnt : Word) {n : Nat} (hn : n + 1 < 2 ^ 32) :
    chanMatches cnt { cmp := cnt + BitVec.ofNat 32 (n + 1), arm := true, ev := false } = decide (n = 0) := by
  have hmeet : cnt + 1 = cnt + BitVec.ofNat 32 (n + 1) ↔ n = 0 := by
    rw [BitVec.add_right_inj, ← BitVec.toNat_inj, BitVec.toNat_ofNat, Nat.mod_eq_of_lt hn]
    change 1 = n + 1 ↔ n = 0
    omega
  simp only [chanMatches, Bool.true_and, hmeet]

/-- A tick that asks nothing of the channel brings its event one tick nearer. -/
theorem Channel.DueIn.tick {cnt : Word} {c : Channel} {n : Nat} (h : c.DueIn cnt (n + 1)) :
    (settleChan cnt c (oneshotReq cnt c)).DueIn (cnt + 1) n := by
  obtain ⟨hn, rfl⟩ := h
  unfold oneshotReq
  rw [chanMatches_armed cnt hn]
  cases n with
  | zero => rfl
  | succ n => exact ⟨Nat.lt_of_succ_lt hn, add_one_add_ofNat cnt n ▸ rfl⟩

/-- R173: the tick of `START_TIMER` is the first of the duration. -/
theorem Channel.dueIn_started (cnt : Word) (c : Channel) {n : Nat} (hn : n + 2 < 2 ^ 32) :
    (settleChan cnt c ((oneshotReq cnt c).join { start := some (BitVec.ofNat 32 (n + 2)) })).DueIn (cnt + 1)
      (n + 1) := by
  have hreq : (oneshotReq cnt c).join { start := some (BitVec.ofNat 32 (n + 2)) } =
      { oneshotReq cnt c with start := some (BitVec.ofNat 32 (n + 2)) } := by
    simp [ChanReq.join, oneshotReq_start]
  have hlong : (BitVec.ofNat 32 (n + 2)).toNat = n + 2 := Nat.mod_eq_of_lt hn
  rw [hreq, settleChan_start, hlong]
  refine ⟨Nat.lt_of_succ_lt hn, ?_⟩
  rw [add_one_add_ofNat]
  simp

/-! ## The phases from `START_BIT` to `BLANK` -/

section
variable {s : State} (hs : Displaying s)
include hs

/-- R141. -/
theorem Displaying.startBit {n : Nat} (hph : s.phase = .startBit) (htcs : s.cfg.tcs s.bit.toNat = n + 2)
    (hn : n + 2 < 2 ^ 32) :
    ∃ t, step s = .next t ∧ Displaying t ∧ t.phase = .unblank ∧ t.port.oeN = s.port.oeN ∧
      t.tBcm.DueIn t.cnt (n + 1) := by
  have hc : effectOf s.phase.op s.beginTick = .ok (effStartBit s.beginTick) := hph ▸ rfl
  have hcore : (effStartBit s.beginTick).core =
      { phase := some .unblank, tBcm := { start := some (BitVec.ofNat 32 (n + 2)) } } := htcs ▸ rfl
  obtain ⟨t, hstep, ht, hphase, hoeN, hcnt, hch⟩ := hs.tick (hph ▸ by decide) hc hcore
  exact ⟨t, hstep, ht, hphase, hoeN, hcnt ▸ hch ▸ Channel.dueIn_started s.cnt s.tBcm hn⟩

/-- A phase that leaves channel BCM alone, its event still to come. -/
theorem Displaying.tick_due {c : Effect} {ph : Phase} {oe : Option Bool} {n : Nat} (hrun : s.phase ≠ .idle)
    (hdue : s.tBcm.DueIn s.cnt (n + 1)) (hc : effectOf s.phase.op s.beginTick = .ok c)
    (hcore : c.core = { phase := some ph, oeN := oe }) :
    ∃ t, step s = .next t ∧ Displaying t ∧ t.phase = ph ∧ t.port.oeN = oe.getD s.port.oeN ∧
      t.tBcm.DueIn t.cnt n := by
  obtain ⟨t, hstep, ht, hphase, hoeN, hcnt, hch⟩ := hs.tick hrun hc hcore
  rw [ChanReq.join_empty] at hch
  exact ⟨t, hstep, ht, hphase, hoeN, hcnt ▸ hch ▸ hdue.tick⟩

/-- R142. -/
theorem Displaying.unblank {n : Nat} (hph : s.phase = .unblank) (hdue : s.tBcm.DueIn s.cnt (n + 1)) :
    ∃ t, step s = .next t ∧ Displaying t ∧ t.phase = .advance ∧ t.port.oeN = false ∧ t.tBcm.DueIn t.cnt n :=
  hs.tick_due (hph ▸ by decide) hdue (hph ▸ rfl) (c := effUnblank) rfl

/-- R143: the cursor moves, and the next pass follows at once or after `VSYNC`. -/
theorem Displaying.advance {n : Nat} (hph : s.phase = .advance) (hdue : s.tBcm.DueIn s.cnt (n + 1)) :
    ∃ t, step s = .next t ∧ Displaying t ∧ (t.phase = .waitBit ∨ t.phase = .vsync) ∧
      t.port.oeN = s.port.oeN ∧ t.tBcm.DueIn t.cnt n := by
  have hc : effectOf s.phase.op s.beginTick = .ok (effAdvance s.beginTick) := hph ▸ rfl
  have hcore : ∃ ph, (ph = .waitBit ∨ ph = .vsync) ∧ (effAdvance s.beginTick).core = { phase := some ph } := by
    unfold effAdvance
    split
    · exact ⟨.waitBit, .inl rfl, rfl⟩
    · split
      · exact ⟨.waitBit, .inl rfl, rfl⟩
      · exact ⟨.vsync, .inr rfl, rfl⟩
  obtain ⟨ph, hnext, hcore⟩ := hcore
  obtain ⟨t, hstep, ht, rfl, hoeN, hdue'⟩ := hs.tick_due (hph ▸ by decide) hdue hc hcore
  exact ⟨t, hstep, ht, hnext, hoeN, hdue'⟩

/-- R152: the frame boundary runs while the last plane is lit. -/
theorem Displaying.vsync {n : Nat} (hph : s.phase = .vsync) (hdue : s.tBcm.DueIn s.cnt (n + 1)) :
    ∃ t, step s = .next t ∧ Displaying t ∧ t.phase = .waitBit ∧ t.port.oeN = s.port.oeN ∧
      t.tBcm.DueIn t.cnt n := by
  have hvsync : ∃ c, effVsync s.beginTick = .ok c ∧ c.core = { phase := some .waitBit } := by
    obtain ⟨hreads, hwrites⟩ := hs.packFits
    simp only [effVsync, effPack, State.beginTick_params, State.beginTick_cfg, hreads, hwrites, hs.regime]
    exact ⟨_, rfl, rfl⟩
  obtain ⟨c, hc, hcore⟩ := hvsync
  exact hs.tick_due (hph ▸ by decide) hdue (hph ▸ hc) hcore

/-- R131, before the event. -/
theorem Displaying.waitBit {n : Nat} (hph : s.phase = .waitBit) (hdue : s.tBcm.DueIn s.cnt (n + 1)) :
    ∃ t, step s = .next t ∧ Displaying t ∧ t.phase = .waitBit ∧ t.port.oeN = s.port.oeN ∧
      t.tBcm.DueIn t.cnt n := by
  have hc : effectOf s.phase.op s.beginTick = .ok (effWaitBit s.beginTick) := hph ▸ rfl
  have hcore : (effWaitBit s.beginTick).core = { phase := some .waitBit } := by
    obtain ⟨-, hch⟩ := hdue
    simp only [effWaitBit, State.beginTick_tBcm, hch]
    rfl
  exact hs.tick_due (hph ▸ by decide) hdue hc hcore

/-- R131, at the event. -/
theorem Displaying.waitBit_event (hph : s.phase = .waitBit) (hev : s.tBcm.ev = true) :
    ∃ t, step s = .next t ∧ Displaying t ∧ t.phase = .blank ∧ t.port.oeN = s.port.oeN := by
  have hc : effectOf s.phase.op s.beginTick = .ok (effWaitBit s.beginTick) := hph ▸ rfl
  have hcore : (effWaitBit s.beginTick).core = { phase := some .blank } := by
    simp only [effWaitBit, State.beginTick_tBcm, hev]
    rfl
  obtain ⟨t, hstep, ht, hphase, hoeN, -⟩ := hs.tick (hph ▸ by decide) hc hcore
  exact ⟨t, hstep, ht, hphase, hoeN⟩

/-- R132. -/
theorem Displaying.blank (hph : s.phase = .blank) : ∃ t, step s = .next t ∧ t.port.oeN = true := by
  obtain ⟨t, hstep, -, -, hoeN, -⟩ := hs.tick (hph ▸ by decide) (c := effBlank) (hph ▸ rfl) rfl
  exact ⟨t, hstep, hoeN⟩

end

/-! ## The lit ticks left -/

/-- The port is lit before each of the next `n` ticks, and dark before the tick after them. -/
def LitFor (n : Nat) (s : State) : Prop :=
  ∀ j, j ≤ n → ∃ t, run j s = .next t ∧ (t.port.oeN = false ↔ j < n)

theorem run_succ {s t : State} (h : step s = .next t) (j : Nat) : run (j + 1) s = run j t := by
  simp only [run, h]

theorem litFor_zero {s : State} (h : s.port.oeN = true) : LitFor 0 s := by
  intro j hj
  obtain rfl : j = 0 := Nat.le_zero.mp hj
  exact ⟨s, rfl, by simp [h]⟩

theorem litFor_succ {s t : State} {n : Nat} (hlit : s.port.oeN = false) (hstep : step s = .next t)
    (ht : LitFor n t) : LitFor (n + 1) s := by
  intro j hj
  cases j with
  | zero => exact ⟨s, rfl, by simp [hlit]⟩
  | succ j =>
    obtain ⟨u, hrun, hu⟩ := ht j (Nat.le_of_succ_le_succ hj)
    exact ⟨u, (run_succ hstep j).trans hrun, hu.trans Nat.succ_lt_succ_iff.symm⟩

theorem litFor_blank {s : State} (hs : Displaying s) (hph : s.phase = .blank) (hlit : s.port.oeN = false) :
    LitFor 1 s := by
  obtain ⟨t, hstep, hoeN⟩ := hs.blank hph
  exact litFor_succ hlit hstep (litFor_zero hoeN)

/-- The wait for the event, by the ticks left to it. -/
theorem litFor_waitBit {n : Nat} {s : State} (hs : Displaying s) (hph : s.phase = .waitBit)
    (hlit : s.port.oeN = false) (hdue : s.tBcm.DueIn s.cnt n) : LitFor (n + 2) s := by
  induction n generalizing s with
  | zero =>
    obtain ⟨t, hstep, ht, hphase, hoeN⟩ := hs.waitBit_event hph hdue
    exact litFor_succ hlit hstep (litFor_blank ht hphase (hoeN.trans hlit))
  | succ n ih =>
    obtain ⟨t, hstep, ht, hphase, hoeN, hdue'⟩ := hs.waitBit hph hdue
    exact litFor_succ hlit hstep (ih ht hphase (hoeN.trans hlit) hdue')

theorem litFor_vsync {n : Nat} {s : State} (hs : Displaying s) (hph : s.phase = .vsync)
    (hlit : s.port.oeN = false) (hdue : s.tBcm.DueIn s.cnt (n + 1)) : LitFor (n + 3) s := by
  obtain ⟨t, hstep, ht, hphase, hoeN, hdue'⟩ := hs.vsync hph hdue
  exact litFor_succ hlit hstep (litFor_waitBit ht hphase (hoeN.trans hlit) hdue')

/-- The event is two ticks away at least, so that it finds `WAIT_BIT` even after a `VSYNC` (R144). -/
theorem litFor_advance {n : Nat} {s : State} (hs : Displaying s) (hph : s.phase = .advance)
    (hlit : s.port.oeN = false) (hdue : s.tBcm.DueIn s.cnt (n + 2)) : LitFor (n + 4) s := by
  obtain ⟨t, hstep, ht, hwait | hvsync, hoeN, hdue'⟩ := hs.advance hph hdue
  · exact litFor_succ hlit hstep (litFor_waitBit ht hwait (hoeN.trans hlit) hdue')
  · exact litFor_succ hlit hstep (litFor_vsync ht hvsync (hoeN.trans hlit) hdue')

/-! ## The law -/

theorem Inv.displaying {s : State} (hinv : Inv s) (hrst : NoReset s) (hph : s.phase = .startBit) :
    Displaying s := by
  obtain ⟨⟨-, hlegal, hbcm, -⟩, -, -, ⟨-, -, -, -, hidle, -⟩, -⟩ := hinv
  have hregime : s.cfg.regime = .bcm := hbcm (hph ▸ rfl)
  obtain ⟨hsh, -⟩ := hidle hregime (hph ▸ by decide)
  exact ⟨hrst, hregime, packFits_of_legal hlegal, hsh⟩

theorem Inv.oeN_of_startBit {s : State} (hinv : Inv s) (hph : s.phase = .startBit) : s.port.oeN = true := by
  obtain ⟨-, -, -, -, ⟨-, -, -, -, hdark, -⟩, -⟩ := hinv
  exact hdark (hph ▸ rfl)

/-- R67: the duration of a plane is at least 4 ticks and fits the counter. -/
theorem Inv.tcs_bounds {s : State} (hinv : Inv s) :
    s.cfg.tcs s.bit.toNat = s.cfg.bcmUnit * 2 ^ s.bit.toNat ∧ 4 ≤ s.cfg.bcmUnit * 2 ^ s.bit.toNat ∧
      s.cfg.bcmUnit * 2 ^ s.bit.toNat < 2 ^ 32 := by
  obtain ⟨⟨-, ⟨-, -, -, -, -, -, ⟨hlo, hhi, -⟩, -⟩, -⟩, ⟨-, hbit, -⟩, -⟩ := hinv
  refine ⟨if_pos hbit, ?_, ?_⟩
  · calc 4 ≤ s.cfg.bcmUnit := hlo
      _ ≤ s.cfg.bcmUnit * 2 ^ s.bit.toNat := Nat.le_mul_of_pos_right _ (Nat.two_pow_pos _)
  · calc s.cfg.bcmUnit * 2 ^ s.bit.toNat ≤ s.cfg.bcmUnit * 2 ^ 7 :=
          Nat.mul_le_mul_left _ (Nat.pow_le_pow_right (by decide) (Nat.le_of_lt_succ s.bit.isLt))
      _ < 2 ^ 32 := by omega

/-- Settles O25: `START_BIT` and `UNBLANK` are dark, and from `ADVANCE` on the plane is lit for as many ticks as
`START_BIT` gave the timer. -/
theorem bcmDisplayDuration : Obligations.BcmDisplayDuration := by
  intro s hinv hrst hph
  obtain ⟨htcs, hlong, hfits⟩ := hinv.tcs_bounds
  obtain ⟨n, hn⟩ := Nat.exists_eq_add_of_le' hlong
  rw [hn] at htcs hfits ⊢
  have hdark := hinv.oeN_of_startBit hph
  obtain ⟨t, hstart, ht, hunblank, hoeN, hdue⟩ := (hinv.displaying hrst hph).startBit hph htcs hfits
  obtain ⟨u, hstep, hu, hadvance, hlit, hdue'⟩ := ht.unblank hunblank hdue
  intro j hj
  match j with
  | 0 => exact ⟨s, rfl, by simp [hdark]⟩
  | 1 => exact ⟨t, run_succ hstart 0, by simp [hoeN, hdark]⟩
  | j + 2 =>
    obtain ⟨v, hrun, hv⟩ := litFor_advance hu hadvance hlit hdue' j (by omega)
    exact ⟨v, (run_succ hstart _).trans ((run_succ hstep j).trans hrun), hv.trans (by omega)⟩

end Sys2Proof.Machine
end

section
/-! PROOFS. The interrupt line (60_exceptions.md R186): the flags that are set and enabled form a `StatusBits` of
their own, whose word is the one R186 compares with 0. -/

namespace Sys2Proof.Machine

/-- The flags set in both: `sticky & irq_en & 0x5C` of R186, flag by flag. -/
def StatusBits.inter (a b : StatusBits) : StatusBits :=
  { vsync := a.vsync && b.vsync, errNomem := a.errNomem && b.errNomem,
    stopTimeout := a.stopTimeout && b.stopTimeout, errCmd := a.errCmd && b.errCmd }

theorem StatusBits.word_inter (a b : StatusBits) : (a.inter b).word = a.word &&& b.word &&& 0x5C := by
  refine BitVec.eq_of_getLsbD_eq fun i hi => ?_
  rw [BitVec.getLsbD_and, BitVec.getLsbD_and, getLsbD_stickyMask hi, StatusBits.getLsbD_word _ hi,
    StatusBits.getLsbD_word _ hi, StatusBits.getLsbD_word _ hi]
  by_cases hflag : i = 2 ∨ i = 3 ∨ i = 4 ∨ i = 6
  · obtain rfl | rfl | rfl | rfl := hflag <;> simp [StatusBits.inter]
  · obtain ⟨h2, h3, h4, h6⟩ : i ≠ 2 ∧ i ≠ 3 ∧ i ≠ 4 ∧ i ≠ 6 := by omega
    simp [h2, h3, h4, h6]

/-- A flag word determines its flags. -/
theorem StatusBits.ofWord_word (b : StatusBits) : StatusBits.ofWord b.word = b := by
  simp [StatusBits.ofWord, StatusBits.getLsbD_word, -BitVec.getLsbD_eq_getElem]

theorem StatusBits.word_eq_zero_iff (b : StatusBits) : b.word = 0 ↔ b = {} := by
  constructor
  · intro h
    calc b = StatusBits.ofWord b.word := b.ofWord_word.symm
      _ = StatusBits.ofWord 0 := by rw [h]
      _ = {} := rfl
  · rintro rfl
    exact StatusBits.word_empty

theorem StatusBits.meets_eq_false_iff (a b : StatusBits) : a.meets b = false ↔ a.inter b = {} := by
  simp only [StatusBits.meets, StatusBits.inter, StatusBits.mk.injEq, Bool.or_eq_false_iff, and_assoc]

/-- Settles O20: the line is the meeting of the flags with their enables, and these meet exactly where the word of
the common flags is not 0. -/
theorem interruptLine : Obligations.InterruptLine := by
  intro s
  rw [← StatusBits.word_inter, Ne, StatusBits.word_eq_zero_iff, ← StatusBits.meets_eq_false_iff,
    Bool.not_eq_false, State.irq]

end Sys2Proof.Machine
end

section
/-! PROOFS. The simplest hazard laws (70_reset_and_hazards.md R205, R207, R210): each is a reading of the clauses of
`Inv`, which are taken apart here once, by name. -/

namespace Sys2Proof.Machine

/-! ## What the invariant says of the port and the phase -/

/-- R205, R151: before the first frame the port holds the safe state. -/
theorem Inv.port_of_resting {s : State} (hinv : Inv s) (h : s.phase.resting = true) : s.port = Port.safe := by
  obtain ⟨-, -, -, -, ⟨hsafe, -⟩, -⟩ := hinv
  exact hsafe h

theorem Inv.oeN_of_dark {s : State} (hinv : Inv s) (h : s.phase.dark = true) : s.port.oeN = true := by
  obtain ⟨-, -, -, -, ⟨-, -, -, -, hdark, -⟩, -⟩ := hinv
  exact hdark h

theorem Inv.latched_of_lat {s : State} (hinv : Inv s) (h : s.port.lat = true) : s.phase.latched = true := by
  obtain ⟨-, -, -, -, ⟨-, -, -, hlat, -⟩, -⟩ := hinv
  exact hlat.mp h

theorem Inv.addr_lt {s : State} (hinv : Inv s) : s.port.addr.toNat < s.cfg.nLines := by
  obtain ⟨-, -, -, -, ⟨-, -, -, -, -, haddr⟩, -⟩ := hinv
  exact haddr

/-- R110, R113: an idle shifter holds its wires at 0. -/
theorem Inv.wires_of_shIdle {s : State} (hinv : Inv s) (h : s.shPhase = .idle) :
    s.port.clk = false ∧ s.port.data = 0 := by
  obtain ⟨-, -, -, -, ⟨-, hdata, hclk, -⟩, -⟩ := hinv
  refine ⟨?_, hdata h⟩
  rw [← Bool.not_eq_true, hclk, h]
  decide

/-- R133, R134: a BCM transfer runs in `SHIFT_WAIT` alone. -/
theorem Inv.shiftWait_of_busy {s : State} (hinv : Inv s) (hbcm : s.cfg.regime = .bcm) (h : s.shPhase ≠ .idle) :
    s.phase = .shiftWait := by
  obtain ⟨-, -, -, ⟨-, -, -, -, hidle, -⟩, -⟩ := hinv
  by_contra hph
  exact h (hidle hbcm hph).1

/-! ## The laws -/

/-- Settles O51: `IDLE` is a resting phase, and the invariant keeps port, shifter, channels and requests quiet
there. -/
theorem idleIsQuiet : Obligations.IdleIsQuiet := by
  intro s hinv hph
  have hrest : s.phase.resting = true := hph ▸ rfl
  have hport : s.port = Port.safe := hinv.port_of_resting hrest
  obtain ⟨-, -, -, ⟨-, -, hshIdle, hnotDone, -⟩, -, ⟨hquiet, -⟩, hstop, -⟩ := hinv
  obtain ⟨⟨hBcmArm, hBcmEv⟩, ⟨hLineArm, hLineEv⟩, hOnArm, hOnEv⟩ := hquiet (.inl hrest)
  have hstopReq : s.stopReq = false := by
    rw [← Bool.not_eq_true]
    intro hreq
    obtain ⟨-, hactive, -⟩ := hstop hreq
    exact absurd (hrest.symm.trans hactive) (by decide)
  exact ⟨hport ▸ Port.word_safe, hshIdle (.inl hrest), hBcmArm, hLineArm, hOnArm, hBcmEv, hLineEv, hOnEv,
    hnotDone (.inl hrest), hstopReq⟩

/-- Settles O55: the range is a clause of the invariant, and the safe state of the port has address 0. -/
theorem addressInRange : Obligations.AddressInRange := by
  intro s hinv
  refine ⟨fun _ => hinv.addr_lt, fun hph => ?_⟩
  rw [hinv.port_of_resting (hph ▸ rfl)]
  rfl

/-- Settles O53: an active wire needs a busy shifter, a busy shifter needs `SHIFT_WAIT`, and that phase is dark. -/
theorem bcmShiftsOnlyWhileBlank : Obligations.BcmShiftsOnlyWhileBlank := by
  intro s hinv hbcm hactive
  have hbusy : s.shPhase ≠ .idle := by
    intro hidle
    obtain ⟨hclk, hdata⟩ := hinv.wires_of_shIdle hidle
    obtain h | h | h := hactive
    · exact absurd (h.symm.trans hclk) (by decide)
    · exact h hdata
    · exact h hidle
  exact hinv.oeN_of_dark (hinv.shiftWait_of_busy hbcm hbusy ▸ rfl)

end Sys2Proof.Machine
end

section
/-! PROOFS. The writes of a whole tick by their agents (10_state.md R19, 20_memory.md R47, R49): the timer, the
shifter and the host each write fields of their own, so that every other field of the next state is the
controller's. -/

namespace Sys2Proof.Machine

/-! ## Joining is associative -/

theorem StatusBits.union_assoc (a b c : StatusBits) : (a.union b).union c = a.union (b.union c) := by
  simp [StatusBits.union, Bool.or_assoc]

theorem ChanReq.join_assoc (a b c : ChanReq) : (a.join b).join c = a.join (b.join c) := by
  simp [ChanReq.join, Bool.or_assoc, Option.or_assoc]

theorem Effect.join_assoc (a b c : Effect) : (a.join b).join c = a.join (b.join c) := by
  simp [Effect.join, Bool.or_assoc, Option.or_assoc, ChanReq.join_assoc, StatusBits.union_assoc]

/-- The writes of two groups of operations are those of the one joined to those of the other. -/
theorem gather_append_ok {is js : List Instr} {s : State} {e : Effect} (h : gather (is ++ js) s = .ok e) :
    ∃ a b, gather is s = .ok a ∧ gather js s = .ok b ∧ e = a.join b := by
  induction is generalizing e with
  | nil => exact ⟨{}, e, rfl, h, e.empty_join.symm⟩
  | cons i is ih =>
    obtain ⟨a, b, ha, hb, rfl⟩ := gather_cons_eq_ok_iff.mp h
    obtain ⟨c, d, hc, hd, rfl⟩ := ih hb
    exact ⟨a.join c, d, gather_cons_ok ha hc, hd, (Effect.join_assoc a c d).symm⟩

/-! ## The timer -/

/-- The writes to the counter and the channels. -/
def Effect.timerPart (e : Effect) : Effect := { cnt := e.cnt, tBcm := e.tBcm, tLine := e.tLine, tOn := e.tOn }

/-- The writes touch the timer alone. -/
abbrev Effect.OfTimer (e : Effect) : Prop := e.timerPart = e

theorem Effect.timerPart_join (a b : Effect) : (a.join b).timerPart = a.timerPart.join b.timerPart := rfl

theorem Effect.OfTimer.join {a b : Effect} (ha : a.OfTimer) (hb : b.OfTimer) : (a.join b).OfTimer := by
  rw [Effect.OfTimer, Effect.timerPart_join, ha, hb]

theorem effTmrMatchPeriodic_ofTimer (s : State) : (effTmrMatchPeriodic s).OfTimer := by
  unfold effTmrMatchPeriodic
  split <;> rfl

/-- R170 to R172: the timer's operations answer in every state and write the timer alone. -/
theorem gather_timerOps_ofTimer (s : State) : ∃ e, gather timerOps s = .ok e ∧ e.OfTimer := by
  have hcount : (effTmrCount s).OfTimer := rfl
  have hbcm : (effTmrMatchOneshot .bcm s).OfTimer := rfl
  have hon : (effTmrMatchOneshot .on s).OfTimer := rfl
  exact ⟨_, rfl, hcount.join (hbcm.join (hon.join ((effTmrMatchPeriodic_ofTimer s).join rfl)))⟩

/-! ## The shifter -/

/-- The writes of the shifter's own step. -/
def Effect.shifterPart (e : Effect) : Effect :=
  { shPhase := e.shPhase, shIdx := e.shIdx, shBit := e.shBit, shData := e.shData, shClk := e.shClk
    doneSet := e.doneSet }

/-- The writes touch the shifter's fields alone. -/
abbrev Effect.OfShifter (e : Effect) : Prop := e.shifterPart = e

theorem effShClklo_ofShifter (s : State) : (effShClklo s).OfShifter := by
  unfold effShClklo
  split
  · rfl
  · split <;> rfl

theorem effShData_ofShifter {s : State} {e : Effect} (h : effShData s = .ok e) : e.OfShifter := by
  unfold effShData at h
  split at h
  · cases h
    rfl
  · cases h

/-- R110 to R117: whatever the shifter does, stalled or not, it writes its own fields. -/
theorem shifterOp_ofShifter {inp : TickIn} {s : State} {e : Effect}
    (h : effectOf (shifterOp inp s) s = .ok e) : e.OfShifter := by
  rw [shifterOp_eq] at h
  split at h
  · cases h
    rfl
  · cases hsh : s.shPhase with rw [hsh] at h
    | data => exact effShData_ofShifter h
    | clklo =>
      cases h
      exact effShClklo_ofShifter s
    | idle | clkhi | exit =>
      cases h
      rfl

/-! ## The host -/

/-- The writes a host access can make: registers, flags and framebuffer of the host, the phase and cursors that
`START` sets, the request that `STOP` leaves. -/
def Effect.hostPart (e : Effect) : Effect :=
  { phase := e.phase, line := e.line, bit := e.bit, scan := e.scan, stopReq := e.stopReq, raised := e.raised
    cleared := e.cleared, irqEn := e.irqEn, brightness := e.brightness, stg := e.stg, cfg := e.cfg
    rdData := e.rdData, fb := e.fb }

/-- The writes touch what the host can write alone. -/
abbrev Effect.OfHost (e : Effect) : Prop := e.hostPart = e

theorem effStart_ofHost (s : State) : (effStart s).OfHost := by
  unfold effStart
  split <;> rfl

theorem effStop_ofHost (s : State) : (effStop s).OfHost := by
  unfold effStop
  split
  · rfl
  · split <;> rfl

theorem effModeset_ofHost (s : State) : (effModeset s).OfHost := by
  unfold effModeset
  split
  · rfl
  · split <;> rfl

theorem effFbWr_ofHost (addr value : Word) (s : State) : (effFbWr addr value s).OfHost := by
  unfold effFbWr
  split <;> rfl

theorem effFbRd_ofHost (addr : Word) (s : State) : (effFbRd addr s).OfHost := by
  unfold effFbRd
  split <;> rfl

theorem effectOf_decodeCommand_ofHost (v : Word) (s : State) :
    ∃ e, effectOf (decodeCommand v) s = .ok e ∧ e.OfHost := by
  unfold decodeCommand
  split
  · exact ⟨_, rfl, effStart_ofHost s⟩
  · exact ⟨_, rfl, effStop_ofHost s⟩
  · exact ⟨_, rfl, effModeset_ofHost s⟩
  · exact ⟨_, rfl, rfl⟩

theorem effectOf_decodeWrite_ofHost (p : Params) (addr value : Word) (s : State) :
    ∃ e, effectOf (decodeWrite p addr value) s = .ok e ∧ e.OfHost := by
  unfold decodeWrite
  split
  case h_1 => exact effectOf_decodeCommand_ofHost value s
  case h_18 =>
    split
    · exact ⟨_, rfl, effFbWr_ofHost addr value s⟩
    · exact ⟨_, rfl, rfl⟩
  all_goals exact ⟨_, rfl, rfl⟩

theorem effectOf_decodeRead_ofHost (p : Params) (addr : Word) (s : State) :
    ∃ e, effectOf (decodeRead p addr) s = .ok e ∧ e.OfHost := by
  unfold decodeRead
  split
  · exact ⟨_, rfl, rfl⟩
  · split
    · exact ⟨_, rfl, effFbRd_ofHost addr s⟩
    · exact ⟨_, rfl, rfl⟩

theorem effectOf_decodeHost_ofHost (p : Params) (w : HostWord) (s : State) :
    ∃ e, effectOf (decodeHost p w) s = .ok e ∧ e.OfHost := by
  unfold decodeHost
  split
  · exact effectOf_decodeWrite_ofHost p _ _ s
  · exact effectOf_decodeRead_ofHost p _ s

/-- R80 to R93: a tick's host access, if there is one, writes the host's fields. -/
theorem gather_hostOps_ofHost (inp : TickIn) (s : State) : ∃ e, gather (hostOps inp s) s = .ok e ∧ e.OfHost := by
  unfold hostOps
  split
  case h_1 w _ =>
    obtain ⟨e, he, hhost⟩ := effectOf_decodeHost_ofHost s.params w s
    exact ⟨e.join {}, gather_cons_ok he rfl, e.join_empty.symm ▸ hhost⟩
  case h_2 => exact ⟨{}, rfl, rfl⟩

/-! ## The whole tick -/

/-- The writes of a tick, agent by agent. -/
theorem gather_fetch_cases {inp : TickIn} {s : State} {e : Effect} (h : gather (fetch inp s) s = .ok e) :
    ∃ tm sh c ho : Effect, tm.OfTimer ∧ sh.OfShifter ∧ effectOf s.phase.op s = .ok c ∧ ho.OfHost ∧
      e = tm.join (sh.join (c.join ho)) := by
  obtain ⟨tm, agents, htm, hagents, rfl⟩ := gather_append_ok h
  obtain ⟨sh, others, hsh, hothers, rfl⟩ := gather_cons_eq_ok_iff.mp hagents
  obtain ⟨c, ho, hc, hho, rfl⟩ := gather_cons_eq_ok_iff.mp hothers
  obtain ⟨tm', htm', htimer⟩ := gather_timerOps_ofTimer s
  obtain ⟨ho', hho', hhost⟩ := gather_hostOps_ofHost inp s
  obtain rfl : tm' = tm := Except.ok.inj (htm'.symm.trans htm)
  obtain rfl : ho' = ho := Except.ok.inj (hho'.symm.trans hho)
  exact ⟨tm', sh, c, ho', htimer, shifterOp_ofShifter hsh, effectOf_controllerOp s ▸ hc, hhost, rfl⟩

/-- All that a step can do to the phase and to the port fields `LAT` and `OE_N`: a reset, or what the controller's
operation writes. -/
theorem step_panel_cases {s t : State} (h : step s = .next t) :
    t = s.beginTick.afterReset ∨
      ∃ c, effectOf s.phase.op s.beginTick = .ok c ∧ (∀ ph, c.phase = some ph → t.phase = ph) ∧
        t.port.lat = c.lat.getD s.port.lat ∧ t.port.oeN = c.oeN.getD s.port.oeN := by
  obtain ⟨-, ht⟩ | ⟨-, e, he, rfl⟩ := step_eq_next_iff.mp h
  · exact .inl ht
  obtain ⟨tm, sh, c, ho, htm, hsh, hc, hho, rfl⟩ := gather_fetch_cases he
  have htmPhase : none = tm.phase := congrArg Effect.phase htm
  have htmLat : none = tm.lat := congrArg Effect.lat htm
  have htmOeN : none = tm.oeN := congrArg Effect.oeN htm
  have hshPhase : none = sh.phase := congrArg Effect.phase hsh
  have hshLat : none = sh.lat := congrArg Effect.lat hsh
  have hshOeN : none = sh.oeN := congrArg Effect.oeN hsh
  have hhoLat : none = ho.lat := congrArg Effect.lat hho
  have hhoOeN : none = ho.oeN := congrArg Effect.oeN hho
  refine .inr ⟨c, hc, fun ph hph => ?_, ?_, ?_⟩
  · simp [← htmPhase, ← hshPhase, hph]
  · simp [← htmLat, ← hshLat, ← hhoLat]
  · simp [← htmOeN, ← hshOeN, ← hhoOeN]

end Sys2Proof.Machine
end

section
/-! PROOFS. The latch law (70_reset_and_hazards.md R206): `LAT` rises in two operations only and the panel is lit by
two others only, and between the rise of `LAT` and the tick after its fall none of the latter runs. -/

namespace Sys2Proof.Machine

/-! ## Which operations raise `LAT` and which light the panel -/

/-- A tick in phase `ph` that takes the port from `old` to `new` raises `LAT` only by `LAT_ON` or `L_LAT_ON`, and
lights a blank panel only by `UNBLANK` or `L_UNBLANK` (44_bcm_sequencer.md R135, R142; 45_vsync_controller.md R159,
R163). -/
structure PanelMove (ph : Phase) (old new : Port) : Prop where
  lat_rises : new.lat = true → old.lat = true ∨ ph = .latOn ∨ ph = .lLatOn
  stays_blank : old.oeN = true → new.oeN = true ∨ ph = .unblank ∨ ph = .lUnblank

/-- Where both fields stay as they are. -/
theorem PanelMove.of_eq {ph : Phase} {old new : Port} (hlat : new.lat = old.lat) (hoeN : new.oeN = old.oeN) :
    PanelMove ph old new :=
  ⟨fun h => .inl (hlat ▸ h), fun h => .inl (hoeN ▸ h)⟩

/-- Where `LAT` stays and the panel is blanked. -/
theorem PanelMove.of_blank {ph : Phase} {old new : Port} (hlat : new.lat = old.lat) (hoeN : new.oeN = true) :
    PanelMove ph old new :=
  ⟨fun h => .inl (hlat ▸ h), fun _ => .inl hoeN⟩

/-- Where `LAT` is lowered and `OE_N` stays. -/
theorem PanelMove.of_latOff {ph : Phase} {old new : Port} (hlat : new.lat = false) (hoeN : new.oeN = old.oeN) :
    PanelMove ph old new :=
  ⟨fun h => absurd (hlat.symm.trans h) (by decide), fun h => .inl (hoeN ▸ h)⟩

/-- `PACK` has no part in the port. -/
theorem effPack_panel {s : State} {e : Effect} (h : effPack s = .ok e) : e.lat = none ∧ e.oeN = none := by
  unfold effPack at h
  split at h
  · cases h
  · cases h
  · cases h
    exact ⟨rfl, rfl⟩

theorem effPrime_panel {s : State} {e : Effect} (h : effPrime s = .ok e) : e.lat = none ∧ e.oeN = none := by
  unfold effPrime at h
  split at h
  · cases h
  · rename_i pk hpk
    obtain ⟨hlat, hoeN⟩ := effPack_panel hpk
    cases h
    cases s.cfg.regime <;> simp [hlat, hoeN, Effect.raise, effStartTimer]

theorem effVsync_panel {s : State} {e : Effect} (h : effVsync s = .ok e) : e.lat = none ∧ e.oeN = none := by
  unfold effVsync at h
  split at h
  · cases h
  · rename_i pk hpk
    obtain ⟨hlat, hoeN⟩ := effPack_panel hpk
    cases h
    cases s.cfg.regime <;> simp [hlat, hoeN, Effect.raise]

/-- R153: of the handlers of `L_IDLE`, `L_STOP_REQ` and `ON_EXPIRE` blank the panel and the others leave it. -/
theorem effLIdle_panelMove (s : State) : PanelMove .lIdle s.port (settlePort s.port (effLIdle s)) := by
  unfold effLIdle
  split
  · exact .of_blank rfl rfl
  · exact .of_eq rfl rfl
  · exact .of_blank rfl rfl
  · unfold effLineTick
    split <;> exact .of_eq rfl rfl
  · exact .of_eq rfl rfl

/-- R164: also an abort writes `LAT` and `OE_N` as they are (log 27). -/
theorem effLStopWait_panelMove (s : State) : PanelMove .lStopWait s.port (settlePort s.port (effLStopWait s)) := by
  unfold effLStopWait
  split
  · exact .of_eq rfl rfl
  · split <;> exact .of_eq rfl rfl

/-- The controller's operation, phase by phase. -/
theorem controller_panelMove {ph : Phase} {s : State} {c : Effect} (h : effectOf ph.op s = .ok c) :
    PanelMove ph s.port (settlePort s.port c) := by
  cases ph with
  | prime =>
    obtain ⟨hlat, hoeN⟩ := effPrime_panel h
    exact .of_eq (by simp [hlat]) (by simp [hoeN])
  | vsync =>
    obtain ⟨hlat, hoeN⟩ := effVsync_panel h
    exact .of_eq (by simp [hlat]) (by simp [hoeN])
  | lIdle =>
    cases h
    exact effLIdle_panelMove s
  | lStopWait =>
    cases h
    exact effLStopWait_panelMove s
  | waitBit =>
    cases h
    unfold effWaitBit
    split <;> exact .of_eq rfl rfl
  | shiftWait =>
    cases h
    unfold effShiftWait
    split <;> exact .of_eq rfl rfl
  | waitDim =>
    cases h
    unfold effWaitDim
    split <;> exact .of_eq rfl rfl
  | latHold =>
    cases h
    unfold effLatHold
    split <;> exact .of_eq rfl rfl
  | lLatHold =>
    cases h
    unfold effLLatHold
    split <;> exact .of_eq rfl rfl
  | advance =>
    cases h
    unfold effAdvance
    split
    · exact .of_eq rfl rfl
    · split <;> exact .of_eq rfl rfl
  | idle | shiftGo | setLine | startDim | startBit | lSetLine =>
    cases h
    exact .of_eq rfl rfl
  | blank | lBlank =>
    cases h
    exact .of_blank rfl rfl
  | latOn =>
    cases h
    exact ⟨fun _ => .inr (.inl rfl), .inl⟩
  | lLatOn =>
    cases h
    exact ⟨fun _ => .inr (.inr rfl), .inl⟩
  | latOff | lLatOff =>
    cases h
    exact .of_latOff rfl rfl
  | unblank =>
    cases h
    exact ⟨.inl, fun _ => .inr (.inl rfl)⟩
  | lUnblank =>
    cases h
    refine ⟨fun hlat => .inl ?_, fun _ => .inr (.inr rfl)⟩
    unfold effLUnblank at hlat
    split at hlat <;> exact hlat
  | lStopSafe =>
    cases h
    exact ⟨nofun, fun _ => .inl rfl⟩

/-- R135 to R137, R159 to R161: while `LAT` is 1 the controller does not go on to light the panel. -/
theorem controller_phase_of_latched {ph : Phase} {s : State} {c : Effect} (hph : ph.latched = true)
    (h : effectOf ph.op s = .ok c) : ∃ next, c.phase = some next ∧ next ≠ .unblank ∧ next ≠ .lUnblank := by
  cases ph with
  | latHold =>
    cases h
    unfold effLatHold
    split <;> exact ⟨_, rfl, by decide, by decide⟩
  | lLatHold =>
    cases h
    unfold effLLatHold
    split <;> exact ⟨_, rfl, by decide, by decide⟩
  | latOff | lLatOff =>
    cases h
    exact ⟨_, rfl, by decide, by decide⟩
  | _ => exact absurd hph (by decide)

/-! ## The same of a step -/

/-- A reset tick included: it leaves the safe state of the port. -/
theorem step_panelMove {s t : State} (h : step s = .next t) : PanelMove s.phase s.port t.port := by
  obtain rfl | ⟨c, hc, -, hlat, hoeN⟩ := step_panel_cases h
  · exact ⟨nofun, fun _ => .inl rfl⟩
  · obtain ⟨hrises, hblank⟩ := controller_panelMove hc
    exact ⟨fun h => hrises (hlat.symm.trans h), fun h => (hblank h).imp_left hoeN.trans⟩

/-- R206: only the two operations that raise `LAT` do. -/
theorem phase_of_lat_rises {s t : State} (h : step s = .next t) (hlow : s.port.lat = false)
    (hhigh : t.port.lat = true) : s.phase = .latOn ∨ s.phase = .lLatOn :=
  ((step_panelMove h).lat_rises hhigh).resolve_left (by simp [hlow])

/-- A blank panel stays blank in a tick that does not light it. -/
theorem step_stays_blank {s t : State} (h : step s = .next t) (hblank : s.port.oeN = true)
    (hu : s.phase ≠ .unblank) (hlu : s.phase ≠ .lUnblank) : t.port.oeN = true :=
  ((step_panelMove h).stays_blank hblank).resolve_right (not_or.mpr ⟨hu, hlu⟩)

theorem step_phase_of_latched {s t : State} (h : step s = .next t) (hph : s.phase.latched = true) :
    t.phase ≠ .unblank ∧ t.phase ≠ .lUnblank := by
  obtain rfl | ⟨c, hc, hphase, -, -⟩ := step_panel_cases h
  · exact ⟨nofun, nofun⟩
  · obtain ⟨next, hnext, hne⟩ := controller_phase_of_latched hph hc
    exact (hphase next hnext).symm ▸ hne

/-! ## The law -/

theorem dark_of_latched {ph : Phase} (h : ph.latched = true) : ph.dark = true := by
  cases ph with
  | latHold | latOff | lLatHold | lLatOff => rfl
  | _ => exact absurd h (by decide)

/-- `UNBLANK` and `L_UNBLANK` come after `LAT` has fallen. -/
theorem ne_unblank_of_latched {ph : Phase} (h : ph.latched = true) : ph ≠ .unblank ∧ ph ≠ .lUnblank :=
  ⟨fun hu => absurd (hu ▸ h) (by decide), fun hu => absurd (hu ▸ h) (by decide)⟩

/-- R206, the rise: the tick that raises `LAT` lies in the dark and does not light the panel. -/
theorem Inv.blank_of_lat_rises {s t : State} (hinv : Inv s) (h : step s = .next t) (hlow : s.port.lat = false)
    (hhigh : t.port.lat = true) : s.port.oeN = true ∧ t.port.oeN = true := by
  obtain hph | hph := phase_of_lat_rises h hlow hhigh
  all_goals
    have hblank : s.port.oeN = true := hinv.oeN_of_dark (hph ▸ rfl)
    exact ⟨hblank, step_stays_blank h hblank (hph ▸ by decide) (hph ▸ by decide)⟩

/-- R206, the fall: two ticks from a port value with `LAT` 1 the panel is still blank. -/
theorem Inv.blank_after_lat {s t : State} (hinv : Inv s) (h : step s = .next t) (hlat : s.port.lat = true) :
    t.port.oeN = true ∧ ∀ u, step t = .next u → u.port.oeN = true := by
  have hph : s.phase.latched = true := hinv.latched_of_lat hlat
  obtain ⟨hu, hlu⟩ := ne_unblank_of_latched hph
  have hblank : t.port.oeN = true := step_stays_blank h (hinv.oeN_of_dark (dark_of_latched hph)) hu hlu
  obtain ⟨hu', hlu'⟩ := step_phase_of_latched h hph
  exact ⟨hblank, fun u hstep => step_stays_blank hstep hblank hu' hlu'⟩

/-- Settles O52: while `LAT` is 1 the phase is a dark one, and the margins are those of the rise and of the fall. -/
theorem latchOnlyWhileBlank : Obligations.LatchOnlyWhileBlank := by
  intro s t hinv h
  refine ⟨fun hlat => ?_, hinv.blank_of_lat_rises h, fun hlat _ => hinv.blank_after_lat h hlat⟩
  exact hinv.oeN_of_dark (dark_of_latched (hinv.latched_of_lat hlat))

end Sys2Proof.Machine
end

section
/-! PROOFS. The encodings (30_encoding.md): every format's words and its operations determine each other. -/

namespace Sys2Proof

/-! ## Host words -/

/-- R60: a read word is its address alone. -/
theorem HostWord.getLsbD_read (a : Word) (i : Nat) :
    (HostWord.read a).getLsbD i = (decide (32 ≤ i) && decide (i < 64) && a.getLsbD (i - 32)) := by
  change (0#1 ++ a ++ 0#32).getLsbD i = _
  rw [BitVec.getLsbD_append, BitVec.getLsbD_append]
  by_cases hv : i < 32
  · simp [hv, Nat.not_le.mpr hv]
  · by_cases ha : i < 64
    · simp [hv, ha, Nat.not_lt.mp hv, show i - 32 < 32 by omega]
    · simp [hv, ha, show ¬ i - 32 < 32 by omega]

@[simp] theorem HostWord.rw_read (a : Word) : (HostWord.read a).rw = false :=
  HostWord.getLsbD_read a 64

@[simp] theorem HostWord.addr_read (a : Word) : (HostWord.read a).addr = a := by
  refine BitVec.eq_of_getLsbD_eq fun i hi => ?_
  rw [HostWord.addr, BitVec.getLsbD_extractLsb', HostWord.getLsbD_read]
  simp [hi, show 32 + i < 64 by omega]

theorem decodeHost_read (p : Params) (a : Word) : decodeHost p (HostWord.read a) = decodeRead p a := by
  simp [decodeHost]

/-- R60: the three fields make up the word. -/
theorem HostWord.ext_fields {w w' : HostWord} (hrw : w.rw = w'.rw) (haddr : w.addr = w'.addr)
    (hvalue : w.value = w'.value) : w = w' := by
  refine BitVec.eq_of_getLsbD_eq fun i hi => ?_
  by_cases hv : i < 32
  · have h := congrArg (BitVec.getLsbD · i) hvalue
    simpa only [HostWord.value, BitVec.getLsbD_extractLsb', hv, decide_true, Bool.true_and, Nat.zero_add] using h
  by_cases ha : i < 64
  · have h := congrArg (BitVec.getLsbD · (i - 32)) haddr
    simpa only [HostWord.addr, BitVec.getLsbD_extractLsb', show i - 32 < 32 by omega, decide_true, Bool.true_and,
      show 32 + (i - 32) = i by omega] using h
  · obtain rfl : i = 64 := by omega
    exact hrw

theorem HostWord.eq_write {w : HostWord} (h : w.rw = true) : w = HostWord.write w.addr w.value :=
  HostWord.ext_fields (by simp [h]) (by simp) (by simp)

@[simp] theorem HostWord.value_read (a : Word) : (HostWord.read a).value = 0 := by
  refine BitVec.eq_of_getLsbD_eq fun i hi => ?_
  rw [HostWord.value, BitVec.getLsbD_extractLsb', HostWord.getLsbD_read]
  simp [show ¬ 32 ≤ i by omega]

theorem HostWord.eq_read {w : HostWord} (h : w.rw = false) (hv : w.value = 0) : w = HostWord.read w.addr :=
  HostWord.ext_fields (by simp [h]) (by simp) (by simp [hv])

theorem decodeHost_of_write {w : HostWord} (p : Params) (h : w.rw = true) :
    decodeHost p w = decodeWrite p w.addr w.value := by
  simp [decodeHost, h]

theorem decodeHost_of_read {w : HostWord} (p : Params) (h : w.rw = false) :
    decodeHost p w = decodeRead p w.addr := by
  simp [decodeHost, h]

/-! ## The host map -/

theorem inFbWindow_iff (p : Params) (a : Word) : inFbWindow p a = true ↔ InFbWindow p a := by
  simp [inFbWindow]

/-- R42: the registers lie below the FB window. -/
theorem not_writable_of_inFbWindow {p : Params} {a : Word} (h : InFbWindow p a) :
    a.toNat ∉ writableOffsets := by
  obtain ⟨hlow, -⟩ := h
  intro hmem
  have hall : ∀ x ∈ writableOffsets, x < 0x10000 := by decide
  exact absurd (hall _ hmem) (by omega)

theorem not_regOffset_of_inFbWindow {p : Params} {a : Word} (h : InFbWindow p a) :
    a.toNat ∉ regOffsets := by
  obtain ⟨hlow, -⟩ := h
  intro hmem
  have hall : ∀ x ∈ regOffsets, x < 0x10000 := by decide
  exact absurd (hall _ hmem) (by omega)

/-- R80: away from the writable registers a write goes to the FB window or nowhere. -/
theorem decodeWrite_of_not_writable (p : Params) {a : Word} (v : Word) (h : a.toNat ∉ writableOffsets) :
    decodeWrite p a v = if inFbWindow p a then .fbWr a v else .wrIgnored a v := by
  unfold decodeWrite
  split
  case h_18 => rfl
  all_goals exact absurd (by simp [*, writableOffsets]) h

theorem HostReg.ofOffset_offset (r : HostReg) : HostReg.ofOffset r.offset = some r := by cases r <;> rfl

theorem HostReg.offset_ofOffset {a : Word} {r : HostReg} (h : HostReg.ofOffset a = some r) : r.offset = a := by
  unfold HostReg.ofOffset at h
  split at h
  all_goals
    cases h
  all_goals
    exact (BitVec.eq_of_toNat_eq ‹_›).symm

/-- R62: the map lists exactly these offsets. -/
theorem HostReg.ofOffset_eq_none_iff (a : Word) : HostReg.ofOffset a = none ↔ a.toNat ∉ regOffsets := by
  constructor
  · intro hnone hmem
    have hall : ∀ x ∈ regOffsets, HostReg.ofOffset (BitVec.ofNat 32 x) ≠ none := by decide
    exact hall _ hmem (by rw [BitVec.ofNat_toNat, BitVec.setWidth_eq]; exact hnone)
  · intro hmem
    cases hr : HostReg.ofOffset a with
    | none => rfl
    | some r =>
      have hall : ∀ r : HostReg, r.offset.toNat ∈ regOffsets := by intro r; cases r <;> decide
      exact absurd (HostReg.offset_ofOffset hr ▸ hall r) hmem

theorem decodeRead_offset (p : Params) (r : HostReg) : decodeRead p r.offset = .rdReg r := by
  simp only [decodeRead, HostReg.ofOffset_offset]

/-- R80: away from the registers a read answers from the FB window or 0. -/
theorem decodeRead_of_not_regOffset (p : Params) {a : Word} (h : a.toNat ∉ regOffsets) :
    decodeRead p a = if inFbWindow p a then .fbRd a else .rdUnmapped a := by
  simp only [decodeRead, (HostReg.ofOffset_eq_none_iff a).mpr h]

/-! ## The decoder on encoded words -/

theorem decode_host (p : Params) (w : HostWord) : decode p .host w.toNat = .ok (decodeHost p w) := by
  have hfits : ¬ 2 ^ Format.host.width ≤ w.toNat := Nat.not_le.mpr w.isLt
  rw [decode, if_neg hfits, BitVec.ofNat_toNat, BitVec.setWidth_eq]

theorem decode_write (p : Params) (a v : Word) :
    decode p .host (HostWord.write a v).toNat = .ok (decodeWrite p a v) := by
  rw [decode_host, decodeHost_write]

theorem decode_read (p : Params) (a : Word) : decode p .host (HostWord.read a).toNat = .ok (decodeRead p a) := by
  rw [decode_host, decodeHost_read]

theorem decode_phase_code (p : Params) (ph : Phase) : decode p .phase ph.code.toNat = .ok ph.op := by
  cases ph <;> rfl

theorem decode_shphase_code (p : Params) (ph : ShPhase) : decode p .shphase ph.code.toNat = .ok ph.op := by
  cases ph <;> rfl

theorem decode_lidle (p : Params) (c : BitVec 4) : decode p .lidle c.toNat = .ok (decodeLidle c) := by
  have hfits : ¬ 2 ^ Format.lidle.width ≤ c.toNat := Nat.not_le.mpr c.isLt
  rw [decode, if_neg hfits, BitVec.ofNat_toNat, BitVec.setWidth_eq]

/-- Log 11: the row id in the low byte, the operands above it. -/
theorem decode_invokedWord (p : Params) {id rest : Nat} (hid : id < 256) (hrest : rest < 2 ^ 34) :
    decode p .invoked (invokedWord id rest) = decodeInvoked (invokedWord id rest) := by
  rw [decode, if_neg (Nat.not_le.mpr (Laws.invokedWord_fits hid hrest))]

theorem invokedWord_mod {id : Nat} (rest : Nat) (hid : id < 256) : invokedWord id rest % 256 = id := by
  simp only [invokedWord]; omega

theorem invokedWord_div {id : Nat} (rest : Nat) (hid : id < 256) : invokedWord id rest / 256 = rest := by
  simp only [invokedWord]; omega

theorem Chan.ofField_field (ch : Chan) : Chan.ofField ch.field = some ch := by cases ch <;> rfl

theorem Chan.field_lt (ch : Chan) : ch.field < 4 := by cases ch <;> decide

theorem decode_lineSelect (p : Params) (n : Index3) :
    decode p .invoked (invokedWord 2 n.toNat) = .ok (.lineSelect n) := by
  rw [decode_invokedWord p (by decide) (by omega), decodeInvoked, invokedWord_mod _ (by decide),
    invokedWord_div _ (by decide)]
  simp [n.isLt]

theorem decode_startTimer (p : Params) (ch : Chan) (d : Word) :
    decode p .invoked (invokedWord 3 (ch.field + 4 * d.toNat)) = .ok (.startTimer ch d) := by
  have hch : (ch.field + 4 * d.toNat) % 4 = ch.field := by have := ch.field_lt; omega
  have hd : (ch.field + 4 * d.toNat) / 4 = d.toNat := by have := ch.field_lt; omega
  rw [decode_invokedWord p (by decide) (by have := ch.field_lt; omega), decodeInvoked,
    invokedWord_mod _ (by decide), invokedWord_div _ (by decide)]
  simp [hch, hd, Chan.ofField_field]

theorem decode_disarm (p : Params) (ch : Chan) :
    decode p .invoked (invokedWord 4 ch.field) = .ok (.disarm ch) := by
  cases ch <;> rfl

theorem decode_shStart (p : Params) (bank : Bool) (line plane : Index3) :
    decode p .invoked (invokedWord 5 (bank.toNat + 2 * line.toNat + 16 * plane.toNat)) =
      .ok (.shStart bank line plane) := by
  have hbank : bank.toNat < 2 := Bool.toNat_lt bank
  rw [decode_invokedWord p (by decide) (by omega), decodeInvoked, invokedWord_mod _ (by decide),
    invokedWord_div _ (by decide)]
  have hlow : ((bank.toNat + 2 * line.toNat + 16 * plane.toNat) % 2 == 1) = bank := by
    cases bank <;> simp <;> omega
  have hline : BitVec.ofNat 3 ((bank.toNat + 2 * line.toNat + 16 * plane.toNat) / 2) = line := by
    refine BitVec.eq_of_toNat_eq ?_
    rw [BitVec.toNat_ofNat]
    omega
  have hplane : BitVec.ofNat 3 ((bank.toNat + 2 * line.toNat + 16 * plane.toNat) / 16) = plane := by
    refine BitVec.eq_of_toNat_eq ?_
    rw [BitVec.toNat_ofNat]
    omega
  simp only [hlow, hline, hplane, show bank.toNat + 2 * line.toNat + 16 * plane.toNat < 128 by omega, if_true]

theorem decode_tmrMatchOneshot (p : Params) (ch : OneShot) :
    decode p .invoked (invokedWord 8 ch.field) = .ok (.tmrMatchOneshot ch) := by
  cases ch <;> rfl

/-- Settles O1: host operations through the fields of their word, selectors by their code, `INVOKED` operations by
the layout of log 11. -/
theorem decodeOfEncode : Obligations.DecodeOfEncode := by
  intro p i hwf
  cases i with
  | start | stop | modeset | wrStatus | wrIrqEn | wrBrightness | wrXres | wrYres | wrBpp | wrRefresh | wrPanelW
  | wrPanelH | wrNLines | wrNBits | wrFlags | wrBcmUnit | wrDimTicks | wrLatchHold | wrStopTimeout =>
    exact decode_write p _ _
  | cmdReserved v =>
    obtain ⟨h1, h2, h3⟩ := hwf
    exact (decode_write p 0x00 v).trans (congrArg Except.ok (decodeCommand_of_ne h1 h2 h3))
  | fbWr a v =>
    refine (decode_write p a v).trans (congrArg Except.ok ?_)
    rw [decodeWrite_of_not_writable p v (not_writable_of_inFbWindow hwf), if_pos ((inFbWindow_iff p a).mpr hwf)]
  | wrIgnored a v =>
    obtain ⟨hreg, hfb⟩ := hwf
    refine (decode_write p a v).trans (congrArg Except.ok ?_)
    rw [decodeWrite_of_not_writable p v hreg, if_neg (mt (inFbWindow_iff p a).mp hfb)]
  | rdReg r => exact (decode_read p r.offset).trans (congrArg Except.ok (decodeRead_offset p r))
  | fbRd a =>
    refine (decode_read p a).trans (congrArg Except.ok ?_)
    rw [decodeRead_of_not_regOffset p (not_regOffset_of_inFbWindow hwf), if_pos ((inFbWindow_iff p a).mpr hwf)]
  | rdUnmapped a =>
    obtain ⟨hreg, hfb⟩ := hwf
    refine (decode_read p a).trans (congrArg Except.ok ?_)
    rw [decodeRead_of_not_regOffset p hreg, if_neg (mt (inFbWindow_iff p a).mp hfb)]
  | lineSelect n => exact decode_lineSelect p n
  | startTimer ch d => exact decode_startTimer p ch d
  | disarm ch => exact decode_disarm p ch
  | shStart bank line plane => exact decode_shStart p bank line plane
  | tmrMatchOneshot ch => exact decode_tmrMatchOneshot p ch
  | _ => rfl

/-! ## The encoder on decoded words -/

theorem word_eq_of_toNat {a : Word} {n : Nat} (h : a.toNat = n) : a = BitVec.ofNat 32 n := by
  rw [← h, BitVec.ofNat_toNat, BitVec.setWidth_eq]

/-- A write to an address decodes to an operation whose word is that write. -/
theorem encode_decodeWrite (p : Params) (a v : Word) :
    encode (decodeWrite p a v) = (.host, (HostWord.write a v).toNat) := by
  unfold decodeWrite
  split
  case h_1 h =>
    obtain rfl : a = 0x00 := BitVec.eq_of_toNat_eq h
    unfold decodeCommand
    split
    · obtain rfl : v = 1 := BitVec.eq_of_toNat_eq ‹_›
      rfl
    · obtain rfl : v = 2 := BitVec.eq_of_toNat_eq ‹_›
      rfl
    · obtain rfl : v = 3 := BitVec.eq_of_toNat_eq ‹_›
      rfl
    · rfl
  case h_18 => split <;> rfl
  all_goals
    obtain rfl := word_eq_of_toNat ‹_›
    rfl

theorem encode_decodeRead (p : Params) (a : Word) :
    encode (decodeRead p a) = (.host, (HostWord.read a).toNat) := by
  unfold decodeRead
  split
  · rename_i r hr
    rw [← HostReg.offset_ofOffset hr]
    rfl
  · split <;> rfl

/-- Settles O2. -/
theorem encodeOfDecodedHostWord : Obligations.EncodeOfDecodedHostWord := by
  intro p w hread
  cases hrw : w.rw with
  | true =>
    rw [decodeHost_of_write p hrw, encode_decodeWrite, ← HostWord.eq_write hrw]
  | false =>
    rw [decodeHost_of_read p hrw, encode_decodeRead, ← HostWord.eq_read hrw (hread hrw)]

/-! ## Decoded host words are well formed -/

theorem wellFormed_decodeCommand (p : Params) (v : Word) : WellFormed p (decodeCommand v) := by
  unfold decodeCommand
  split
  case h_4 h1 h2 h3 =>
    exact ⟨fun h => h1 (congrArg BitVec.toNat h), fun h => h2 (congrArg BitVec.toNat h),
      fun h => h3 (congrArg BitVec.toNat h)⟩
  all_goals trivial

theorem wellFormed_decodeWrite (p : Params) (a v : Word) : WellFormed p (decodeWrite p a v) := by
  unfold decodeWrite
  split
  case h_1 => exact wellFormed_decodeCommand p v
  case h_18 =>
    have hreg : a.toNat ∉ writableOffsets := by
      simp only [imp_false] at *
      simp [writableOffsets, *]
    split
    · exact (inFbWindow_iff p a).mp ‹_›
    · exact ⟨hreg, mt (inFbWindow_iff p a).mpr ‹_›⟩
  all_goals trivial

theorem wellFormed_decodeRead (p : Params) (a : Word) : WellFormed p (decodeRead p a) := by
  unfold decodeRead
  split
  · trivial
  · rename_i hnone
    split
    · exact (inFbWindow_iff p a).mp ‹_›
    · exact ⟨(HostReg.ofOffset_eq_none_iff a).mp hnone, mt (inFbWindow_iff p a).mpr ‹_›⟩

/-- Settles O3. -/
theorem hostDecodingIsTotal : Obligations.HostDecodingIsTotal := by
  intro p w
  refine ⟨?_, fun hrw hreg hfb => ?_, fun hrw hreg hfb => ?_⟩
  · cases hrw : w.rw with
    | true => exact decodeHost_of_write p hrw ▸ wellFormed_decodeWrite p _ _
    | false => exact decodeHost_of_read p hrw ▸ wellFormed_decodeRead p _
  · rw [decodeHost_of_write p hrw, decodeWrite_of_not_writable p _ hreg,
      if_neg (mt (inFbWindow_iff p w.addr).mp hfb)]
  · rw [decodeHost_of_read p hrw, decodeRead_of_not_regOffset p hreg, if_neg (mt (inFbWindow_iff p w.addr).mp hfb)]

/-! ## Reserved codes -/

theorem bareRow_ne_noSuchRow (rest : Nat) (i : Instr) : bareRow rest i ≠ .error .noSuchRow := by
  unfold bareRow
  split <;> nofun

/-- R76, log 11: a row of the table is never missed, whatever its operand bits. -/
theorem decodeInvoked_eq_noSuchRow_iff (n : Nat) :
    decodeInvoked n = .error .noSuchRow ↔ n % 256 = 0 ∨ 11 < n % 256 := by
  unfold decodeInvoked
  dsimp only
  split
  case h_1 h | h_6 h | h_7 h | h_9 h | h_10 h | h_11 h =>
    rw [h]
    exact iff_of_false (bareRow_ne_noSuchRow _ _) (by decide)
  case h_2 h | h_5 h =>
    rw [h]
    refine iff_of_false ?_ (by decide)
    split <;> nofun
  case h_3 h | h_4 h =>
    rw [h]
    refine iff_of_false ?_ (by decide)
    split <;> nofun
  case h_8 h =>
    rw [h]
    refine iff_of_false ?_ (by decide)
    split
    · nofun
    · exact bareRow_ne_noSuchRow _ _
  case h_12 =>
    refine iff_of_true rfl ?_
    simp only [imp_false] at *
    omega

/-- Settles O4: the two hardware selectors by their finitely many codes, the row ids by the cases of the decoder. -/
theorem reservedCodesAreRejected : Obligations.ReservedCodesAreRejected :=
  ⟨by decide, by decide, decodeInvoked_eq_noSuchRow_iff⟩

/-- Settles O5: the host words are writes and reads of the map, the other words codes and rows. -/
theorem writtenWordsDecode : Obligations.WrittenWordsDecode :=
  ⟨decode_write _ 0x00 3, decode_write _ 0x20 8, decode_write _ 0x10005 0x1A7, decode_read _ 0x04,
    decode_read _ 0x20000, decode_phase_code _ .vsync, decode_phase_code _ .lStopSafe, decode_lidle _ 3,
    decode_shphase_code _ .clklo, decode_invokedWord (id := 6) (rest := 0) _ (by decide) (by decide)⟩

end Sys2Proof
end

section
/-! PROOFS. Each operation by itself, with its frame: what its writes leave when they are committed alone (log 9). -/

namespace Sys2Proof.Machine

/-! ## Host writes -/

theorem word_ofWord (v : Word) : (StatusBits.ofWord v).word = v &&& 0x5C := by
  refine BitVec.eq_of_getLsbD_eq fun i hi => ?_
  rw [BitVec.getLsbD_and, getLsbD_stickyMask hi, StatusBits.getLsbD_word _ hi]
  by_cases hflag : i = 2 ∨ i = 3 ∨ i = 4 ∨ i = 6
  · obtain rfl | rfl | rfl | rfl := hflag <;> simp [StatusBits.ofWord]
  · obtain ⟨h2, h3, h4, h6⟩ : i ≠ 2 ∧ i ≠ 3 ∧ i ≠ 4 ∧ i ≠ 6 := by omega
    simp [h2, h3, h4, h6]

/-- Settles O14. -/
theorem statusAndSettingWrites : Obligations.StatusAndSettingWrites := by
  intro s v
  refine ⟨⟨_, rfl, ?_, rfl⟩, ⟨_, rfl, word_ofWord v, rfl⟩, ?_⟩
  · exact (word_settleSticky_ofWord s.sticky {} v).trans BitVec.or_zero
  · rw [← BitVec.setWidth_eq_extractLsb' (by decide)]
    rfl

/-- Settles O15. -/
theorem stagedWrites : Obligations.StagedWrites := by
  intro s v
  simp only [← BitVec.setWidth_eq_extractLsb' (show 16 ≤ 32 by decide),
    ← BitVec.setWidth_eq_extractLsb' (show 8 ≤ 32 by decide),
    ← BitVec.setWidth_eq_extractLsb' (show 3 ≤ 32 by decide)]
  exact ⟨rfl, rfl, rfl, rfl, rfl, rfl, rfl, rfl, rfl, rfl, rfl, rfl, rfl⟩

/-- `FB_WR` inside the window (R86). -/
theorem exec_fbWr {s : State} {a : Word} (v : Word) (h : InFbWindow s.params a) :
    exec (.fbWr a v) s = .next { s with fb := s.fb.write (fbOffset a) (v.setWidth 8) } := by
  change Host.Outcome.next (commit s (effFbWr a v s)) = _
  rw [effFbWr, (inFbWindow_iff s.params a).mpr h]
  rfl

/-- `FB_RD` inside the window (R92). -/
theorem exec_fbRd {s : State} {a : Word} (h : InFbWindow s.params a) :
    exec (.fbRd a) s = .next { s with rdData := (s.fb.read (fbOffset a)).setWidth 32 } := by
  change Host.Outcome.next (commit s (effFbRd a s)) = _
  rw [effFbRd, (inFbWindow_iff s.params a).mpr h]
  rfl

/-- Settles O16. -/
theorem hostMemoryAccess : Obligations.HostMemoryAccess := by
  intro s a v
  refine ⟨fun hwin => ⟨⟨_, exec_fbWr v hwin, ?_, fun x hx => ?_, rfl⟩, exec_fbRd hwin⟩, rfl, rfl⟩
  · exact (Memory.read_write_same _ _ _).trans (BitVec.setWidth_eq_extractLsb' (by decide))
  · exact Memory.read_write_other _ _ hx

/-! ## Register reads -/

/-- R65: the derived bits stand between the sticky ones. -/
theorem getLsbD_status (s : State) :
    s.status.getLsbD 0 = s.running ∧ s.status.getLsbD 1 = s.xferBusy ∧ s.status.getLsbD 2 = s.sticky.vsync ∧
      s.status.getLsbD 3 = s.sticky.errNomem ∧ s.status.getLsbD 4 = s.sticky.stopTimeout ∧
      s.status.getLsbD 5 = s.busy ∧ s.status.getLsbD 6 = s.sticky.errCmd ∧ s.status >>> 7 = 0 := by
  unfold State.status
  obtain ⟨v, n, t, c⟩ := s.sticky
  generalize s.running = r
  generalize s.xferBusy = x
  generalize s.busy = b
  revert v n t c r x b
  decide

/-- R65: the enable bits stand where the flags do. -/
theorem StatusBits.word_eq_append (b : StatusBits) :
    b.word =
      0#25 ++ BitVec.ofBool b.errCmd ++ 0#1 ++ BitVec.ofBool b.stopTimeout ++ BitVec.ofBool b.errNomem ++
        BitVec.ofBool b.vsync ++ 0#2 := by
  obtain ⟨v, n, t, c⟩ := b
  revert v n t c
  decide

/-- R66. -/
theorem scanWord_eq_append (s : State) :
    s.scanWord =
      0#1 ++ s.xferLine ++ 0#1 ++ s.shPhase.code ++ 0#3 ++ s.phase.code ++ 0#1 ++ s.scan ++ 0#3 ++
        BitVec.ofBool s.rdBank ++ 0#1 ++ s.bit ++ 0#1 ++ s.line := by
  unfold State.scanWord
  generalize s.shPhase.code = sh
  generalize s.phase.code = ph
  refine BitVec.eq_of_getLsbD_eq fun i hi => ?_
  simp only [BitVec.getLsbD_append, BitVec.getLsbD_or, BitVec.getLsbD_shiftLeft, BitVec.getLsbD_setWidth]
  interval_cases i <;> simp

/-- R61. -/
theorem setWidth_portWord (p : Port) :
    p.word.setWidth 32 =
      0#18 ++ p.addr ++ BitVec.ofBool p.oeN ++ BitVec.ofBool p.lat ++ BitVec.ofBool p.clk ++ p.data := by
  refine BitVec.eq_of_getLsbD_eq fun i hi => ?_
  simp only [Port.word, BitVec.getLsbD_append, BitVec.getLsbD_setWidth]
  interval_cases i <;> simp

/-- Settles O17: the status bits and the scan word as above, every other register a field with zeros above it. -/
theorem statusScanAndPortReads : Obligations.StatusScanAndPortReads := by
  intro s r
  obtain ⟨h0, h1, h2, h3, h4, h5, h6, h7⟩ := getLsbD_status s
  refine ⟨rfl, rfl, h0, h1, h2, h3, h4, h5, h6, h7, s.irqEn.word_eq_append, scanWord_eq_append s, ?_, ?_, ?_, ?_,
    ?_, ?_, ?_, ?_, ?_, ?_, ?_, rfl, rfl, ?_, rfl⟩
  · exact setWidth_portWord s.port
  all_goals exact BitVec.setWidth_eq_append (by decide)

/-! ## The phases of the BCM regime -/

/-- The line table is the binary code of the line (10_state.md R25). -/
theorem lineTable_eq (n : Index3) : lineTable n = n := by revert n; decide

theorem exec_waitBit (s : State) :
    exec .waitBit s = .next { s with phase := if s.tBcm.ev = true then .blank else .waitBit } := by
  change Host.Outcome.next (commit s (effWaitBit s)) = _
  unfold effWaitBit
  cases s.tBcm.ev <;> rfl

theorem exec_shiftWait (s : State) :
    exec .shiftWait s = .next
      (if s.evDone = true then { s with evDone := false, phase := .latOn }
       else { s with phase := .shiftWait }) := by
  change Host.Outcome.next (commit s (effShiftWait s)) = _
  unfold effShiftWait
  split
  · rw [if_pos ‹_›]
    rfl
  · rw [if_neg (by simp [*])]
    rfl

theorem exec_waitDim (s : State) :
    exec .waitDim s = .next { s with phase := if s.tBcm.ev = true then .startBit else .waitDim } := by
  change Host.Outcome.next (commit s (effWaitDim s)) = _
  unfold effWaitDim
  cases s.tBcm.ev <;> rfl

theorem exec_latHold (s : State) :
    exec .latHold s = .next
      (if s.dly = 0 then { s with phase := .latOff }
       else { s with dly := s.dly - 1, phase := .latHold }) := by
  change Host.Outcome.next (commit s (effLatHold s)) = _
  unfold effLatHold
  split <;> rfl

theorem exec_setLine (s : State) :
    exec .setLine s = .next { s with port := { s.port with addr := s.line }, phase := .startDim } := by
  change Host.Outcome.next (commit s (effSetLine s)) = _
  rw [effSetLine, effLineSelect, lineTable_eq]
  rfl

/-- Settles O22. -/
theorem bcmWaitingAndPortPhases : Obligations.BcmWaitingAndPortPhases := fun s =>
  ⟨rfl, exec_waitBit s, exec_shiftWait s, exec_waitDim s, rfl, rfl, exec_latHold s, rfl, exec_setLine s, rfl⟩

/-- R176: `TCS` is the weighted unit below `N_BITS` and the dim duration at `N_BITS`. -/
theorem Cfg.tcs_of_lt {c : Cfg} {k : Nat} (h : k < c.nBits) : c.tcs k = c.bcmUnit * 2 ^ k := if_pos h

theorem Cfg.tcs_nBits (c : Cfg) : c.tcs c.nBits = c.dimTicks := if_neg (Nat.lt_irrefl _)

theorem exec_startDim (s : State) :
    exec .startDim s = .next
      { s with tBcm := Channel.started s.cnt (BitVec.ofNat 32 s.cfg.dimTicks), phase := .waitDim } := by
  change Host.Outcome.next (commit s (effStartDim s)) = _
  rw [effStartDim, Cfg.tcs_nBits]
  rfl

theorem exec_startBit {s : State} (h : s.bit.toNat < s.cfg.nBits) :
    exec .startBit s = .next
      { s with tBcm := Channel.started s.cnt (BitVec.ofNat 32 (s.cfg.bcmUnit * 2 ^ s.bit.toNat)),
               phase := .unblank } := by
  change Host.Outcome.next (commit s (effStartBit s)) = _
  rw [effStartBit, Cfg.tcs_of_lt h]
  rfl

theorem exec_advance (s : State) :
    exec .advance s = .next
      (if s.bit.toNat + 1 < s.cfg.nBits then { s with bit := s.bit + 1, phase := .waitBit }
       else if s.line.toNat + 1 < s.cfg.nLines then
         { s with bit := 0, line := s.line + 1, phase := .waitBit }
       else { s with bit := 0, line := 0, phase := .vsync }) := by
  change Host.Outcome.next (commit s (effAdvance s)) = _
  unfold effAdvance
  split
  · rfl
  · split <;> rfl

/-- Settles O23. -/
theorem bcmStartingPhases : Obligations.BcmStartingPhases := fun s =>
  ⟨rfl, exec_startDim s, exec_startBit, exec_advance s⟩

/-! ## The frame boundary -/

/-- `PACK` where its bytes exist (R100). -/
theorem effPack_of_fits {s : State} (h : PackFits s) :
    effPack s =
      .ok { bank := some (!s.rdBank, packBank s.cfg s.fb (s.bank (!s.rdBank))), rdBank := some (!s.rdBank) } := by
  obtain ⟨hreads, hwrites⟩ := h
  simp only [effPack, hreads, hwrites]

theorem settleSticky_bits (old : StatusBits) (f : StickyFlag) :
    settleSticky old f.bits {} = old.union f.bits := by
  cases f <;> simp [settleSticky, StickyFlag.bits, StatusBits.union]

/-- What the flags settle to, put in their place. -/
theorem commit_eq_of_sticky {s : State} {e : Effect} {b : StatusBits}
    (h : settleSticky s.sticky e.raised e.cleared = b) : commit s e = { commit s e with sticky := b } := by
  subst h
  rfl

/-- Settles O28. -/
theorem frameBoundary : Obligations.FrameBoundary := by
  intro s hfits
  have hpack := effPack_of_fits hfits
  have hsticky := settleSticky_bits s.sticky .vsync
  refine ⟨_, congrArg (solo · s) hpack, ?_, ?_⟩
  · change solo (effPrime s) s = _
    simp only [effPrime, hpack, solo_ok]
    cases s.cfg.regime <;> exact congrArg Host.Outcome.next ((commit_eq_of_sticky hsticky).trans rfl)
  · change solo (effVsync s) s = _
    simp only [effVsync, hpack, solo_ok]
    cases s.cfg.regime <;> exact congrArg Host.Outcome.next ((commit_eq_of_sticky hsticky).trans rfl)

/-! ## The LINE regime -/

theorem exec_lineTick (s : State) :
    exec .lineTick s = .next
      (if s.shPhase = .idle then
        { s.shifting s.rdBank s.scan 0 with
          tLine := s.tLine.consumed, xferLine := s.scan,
          scan := BitVec.ofNat 3 ((s.scan.toNat + 1) % s.cfg.nLines),
          phase := if (s.scan.toNat + 1) % s.cfg.nLines = 0 then .vsync else .lIdle }
      else { s with tLine := s.tLine.consumed, phase := .lIdle }) := by
  change Host.Outcome.next (commit s (effLineTick s)) = _
  unfold effLineTick
  split
  · rw [if_pos ‹_›]
    rfl
  · rw [if_neg ‹_›]
    rfl

/-- Settles O35. -/
theorem lineHandlers : Obligations.LineHandlers := fun s => ⟨rfl, rfl, rfl, exec_lineTick s, rfl⟩

/-- Settles O36. -/
theorem lineIdlePriority : Obligations.LineIdlePriority := by
  intro s
  refine ⟨⟨_, rfl⟩, ?_⟩
  rw [exec_eq_solo _ _ (by decide), effectOf_lIdle, decodeLidle_lidleWord]
  split
  · rfl
  · split
    · rfl
    · split
      · rfl
      · split <;> rfl

theorem exec_lLatHold (s : State) :
    exec .lLatHold s = .next
      (if s.dly = 0 then { s with phase := .lLatOff }
       else { s with dly := s.dly - 1, phase := .lLatHold }) := by
  change Host.Outcome.next (commit s (effLLatHold s)) = _
  unfold effLLatHold
  split <;> rfl

theorem exec_lSetLine (s : State) :
    exec .lSetLine s = .next { s with port := { s.port with addr := s.xferLine }, phase := .lUnblank } := by
  change Host.Outcome.next (commit s (effLSetLine s)) = _
  rw [effLSetLine, effLineSelect, lineTable_eq]
  rfl

theorem exec_lUnblank (s : State) :
    exec .lUnblank s = .next
      (if s.tOn.ev = true then { s with tOn := s.tOn.consumed, phase := .lIdle }
       else { s with port := { s.port with oeN := false }, phase := .lIdle }) := by
  change Host.Outcome.next (commit s (effLUnblank s)) = _
  unfold effLUnblank
  split
  · rw [if_pos ‹_›]
    rfl
  · rw [if_neg (by simp [*])]
    rfl

/-- Settles O37. -/
theorem lineLatchPhases : Obligations.LineLatchPhases := fun s =>
  ⟨rfl, rfl, exec_lLatHold s, rfl, exec_lSetLine s, exec_lUnblank s⟩

theorem exec_lStopWait (s : State) :
    exec .lStopWait s = .next
      (if s.shPhase = .idle then { s with phase := .lStopSafe }
       else if s.stopCnt = 0 then { s.aborted.raise .stopTimeout with phase := .lStopSafe }
       else { s with stopCnt := s.stopCnt - 1, phase := .lStopWait }) := by
  change Host.Outcome.next (commit s (effLStopWait s)) = _
  unfold effLStopWait
  split
  · rw [if_pos ‹_›]
    rfl
  · rename_i hbusy
    rw [if_neg (c := s.shPhase = .idle) hbusy]
    split
    · exact congrArg Host.Outcome.next
        ((commit_eq_of_sticky (settleSticky_bits s.sticky .stopTimeout)).trans rfl)
    · rfl

/-- Settles O38. -/
theorem stopPhases : Obligations.StopPhases := fun s => ⟨exec_lStopWait s, rfl⟩

/-! ## The shifter and the timer -/

/-- Settles O41. -/
theorem shifterControlAndLineSelect : Obligations.ShifterControlAndLineSelect := by
  intro s bank line plane
  refine ⟨rfl, rfl, rfl, rfl, ?_⟩
  change Host.Outcome.next (commit s (effLineSelect line)) = _
  rw [effLineSelect, lineTable_eq]
  rfl

theorem effShData_of_lt {s : State} (h : s.shOff < s.params.bpbCap) :
    effShData s =
      .ok { shData := some (wireData s.cfg ((s.bank s.shBank).read s.shOff) s.shBit), shPhase := some .clkhi } :=
  if_pos h

theorem exec_shClklo (s : State) :
    exec .shClklo s = .next
      (let low := { s with port := { s.port with clk := false } }
       if s.cfg.bpp = .mono ∧ 0 < s.shBit.toNat then { low with shBit := s.shBit - 1, shPhase := .data }
       else if s.shIdx.toNat + 1 < s.cfg.rowLen then
         { low with shBit := 7, shIdx := s.shIdx + 1, shPhase := .data }
       else { low with shBit := 7, shPhase := .exit }) := by
  change Host.Outcome.next (commit s (effShClklo s)) = _
  unfold effShClklo
  dsimp only
  split
  · rfl
  · split <;> rfl

/-- Settles O42. -/
theorem shifterPhases : Obligations.ShifterPhases := by
  intro s
  refine ⟨fun h => ?_, rfl, exec_shClklo s, rfl⟩
  change solo (effShData s) s = _
  rw [effShData_of_lt h]
  rfl

theorem chanMatches_iff (cnt : Word) (c : Channel) :
    chanMatches cnt c = true ↔ c.arm = true ∧ cnt + 1 = c.cmp := by
  simp [chanMatches]

theorem oneshotReq_of_match {cnt : Word} {c : Channel} (h : chanMatches cnt c = true) :
    oneshotReq cnt c = { hit := some (c.cmp, false) } := by
  rw [oneshotReq, h]

theorem oneshotReq_of_no_match {cnt : Word} {c : Channel} (h : chanMatches cnt c = false) :
    oneshotReq cnt c = {} := by
  rw [oneshotReq, h]

theorem effTmrMatchOneshot_eq (one : OneShot) (s : State) :
    effTmrMatchOneshot one s =
      Effect.onChan (oneShotChan one) (oneshotReq s.cnt (s.chan (oneShotChan one))) := by
  cases one <;> rfl

theorem exec_tmrMatchOneshot (one : OneShot) (s : State) :
    exec (.tmrMatchOneshot one) s = .next
      (let c := s.chan (oneShotChan one)
       if c.arm = true ∧ s.cnt + 1 = c.cmp then
         s.withChan (oneShotChan one) { c with arm := false, ev := true }
       else s) := by
  change Host.Outcome.next (commit s (effTmrMatchOneshot one s)) = _
  simp only [← chanMatches_iff, effTmrMatchOneshot_eq]
  cases hm : chanMatches s.cnt (s.chan (oneShotChan one)) with
  | true =>
    rw [oneshotReq_of_match hm]
    cases one <;> rfl
  | false =>
    rw [oneshotReq_of_no_match hm]
    cases one <;> rfl

theorem exec_tmrMatchPeriodic (s : State) :
    exec .tmrMatchPeriodic s = .next
      (if s.tLine.arm = true ∧ s.cnt + 1 = s.tLine.cmp then
        { s with tLine :=
          { cmp := s.tLine.cmp + BitVec.ofNat 32 s.cfg.linePeriod, arm := true, ev := true } }
       else s) := by
  change Host.Outcome.next (commit s (effTmrMatchPeriodic s)) = _
  simp only [← chanMatches_iff]
  unfold effTmrMatchPeriodic
  split
  · rw [if_pos ‹_›]
    rfl
  · rw [if_neg (by simp [*])]
    rfl

/-- Settles O44. -/
theorem timerOperations : Obligations.TimerOperations := by
  intro s ch one d
  refine ⟨rfl, exec_tmrMatchOneshot one s, exec_tmrMatchPeriodic s, ?_, ?_⟩ <;> cases ch <;> rfl

end Sys2Proof.Machine
end

section
/-! PROOFS. What one tick can do, agent by agent (10_state.md R19, 20_memory.md R47): every branch of the controller,
the shifter and the host as one constructor with its guard and its writes, and the tick as their writes over the
timer's. Later proofs cite these and unfold no operation. -/

namespace Sys2Proof.Machine

/-! ## The controller -/

/-- The writes of `PACK` (41_packer.md R100). -/
def packEffect (s : State) : Effect :=
  { bank := some (!s.rdBank, packBank s.cfg s.fb (s.bank (!s.rdBank))), rdBank := some (!s.rdBank) }

/-- What the controller can write in a tick, one constructor for each branch of each phase. -/
inductive CtrlMove (s : State) : Effect → Prop where
  | idle (hph : s.phase = .idle) : CtrlMove s {}
  | waitBit_event (hph : s.phase = .waitBit) (hev : s.tBcm.ev = true) : CtrlMove s { phase := some .blank }
  | waitBit_wait (hph : s.phase = .waitBit) (hev : s.tBcm.ev = false) : CtrlMove s { phase := some .waitBit }
  | blank (hph : s.phase = .blank) : CtrlMove s { oeN := some true, phase := some .shiftGo }
  | shiftGo (hph : s.phase = .shiftGo) :
      CtrlMove s { shStart := some (s.rdBank, s.line, s.bit), phase := some .shiftWait }
  | shiftWait_done (hph : s.phase = .shiftWait) (hdone : s.evDone = true) :
      CtrlMove s { doneClear := true, phase := some .latOn }
  | shiftWait_wait (hph : s.phase = .shiftWait) (hdone : s.evDone = false) :
      CtrlMove s { phase := some .shiftWait }
  | latOn (hph : s.phase = .latOn) :
      CtrlMove s { lat := some true, dly := some (BitVec.ofNat 16 s.cfg.latchHold), phase := some .latHold }
  | latHold_end (hph : s.phase = .latHold) (hdly : s.dly = 0) : CtrlMove s { phase := some .latOff }
  | latHold_more (hph : s.phase = .latHold) (hdly : s.dly ≠ 0) :
      CtrlMove s { dly := some (s.dly - 1), phase := some .latHold }
  | latOff (hph : s.phase = .latOff) : CtrlMove s { lat := some false, phase := some .setLine }
  | setLine (hph : s.phase = .setLine) : CtrlMove s { addr := some s.line, phase := some .startDim }
  | startDim (hph : s.phase = .startDim) :
      CtrlMove s { tBcm := { start := some (duration s.cfg.dimTicks) }, phase := some .waitDim }
  | waitDim_event (hph : s.phase = .waitDim) (hev : s.tBcm.ev = true) : CtrlMove s { phase := some .startBit }
  | waitDim_wait (hph : s.phase = .waitDim) (hev : s.tBcm.ev = false) : CtrlMove s { phase := some .waitDim }
  | startBit (hph : s.phase = .startBit) :
      CtrlMove s { tBcm := { start := some (duration (s.cfg.tcs s.bit.toNat)) }, phase := some .unblank }
  | unblank (hph : s.phase = .unblank) : CtrlMove s { oeN := some false, phase := some .advance }
  | advance_bit (hph : s.phase = .advance) (hbit : s.bit.toNat + 1 < s.cfg.nBits) :
      CtrlMove s { bit := some (s.bit + 1), phase := some .waitBit }
  | advance_line (hph : s.phase = .advance) (hbit : ¬ s.bit.toNat + 1 < s.cfg.nBits)
      (hline : s.line.toNat + 1 < s.cfg.nLines) :
      CtrlMove s { bit := some 0, line := some (s.line + 1), phase := some .waitBit }
  | advance_frame (hph : s.phase = .advance) (hbit : ¬ s.bit.toNat + 1 < s.cfg.nBits)
      (hline : ¬ s.line.toNat + 1 < s.cfg.nLines) :
      CtrlMove s { bit := some 0, line := some 0, phase := some .vsync }
  | vsync_bcm (hph : s.phase = .vsync) (hfits : PackFits s) (hreg : s.cfg.regime = .bcm) :
      CtrlMove s { packEffect s with raised := { vsync := true }, phase := some .waitBit }
  | vsync_line (hph : s.phase = .vsync) (hfits : PackFits s) (hreg : s.cfg.regime = .line) :
      CtrlMove s { packEffect s with raised := { vsync := true }, phase := some .lIdle }
  | prime_bcm (hph : s.phase = .prime) (hfits : PackFits s) (hreg : s.cfg.regime = .bcm) :
      CtrlMove s { packEffect s with
        raised := { vsync := true }, tBcm := { start := some 0 }, phase := some .waitBit }
  | prime_line (hph : s.phase = .prime) (hfits : PackFits s) (hreg : s.cfg.regime = .line) :
      CtrlMove s { packEffect s with
        raised := { vsync := true }, tLine := { start := some (duration s.cfg.linePeriod) }, phase := some .lIdle }
  | lStopReq (hph : s.phase = .lIdle) (hreq : s.stopReq = true) :
      CtrlMove s
        { tLine := { disarm := true }, tOn := { disarm := true }, stopReq := some false, oeN := some true
          stopCnt := some (BitVec.ofNat 32 s.cfg.stopTimeout), phase := some .lStopWait }
  | lDone (hph : s.phase = .lIdle) (hreq : s.stopReq = false) (hdone : s.evDone = true) :
      CtrlMove s { doneClear := true, phase := some .lBlank }
  | onExpire (hph : s.phase = .lIdle) (hreq : s.stopReq = false) (hdone : s.evDone = false)
      (hon : s.tOn.ev = true) :
      CtrlMove s { tOn := { clear := true }, oeN := some true, phase := some .lIdle }
  | lineTick_start (hph : s.phase = .lIdle) (hreq : s.stopReq = false) (hdone : s.evDone = false)
      (hon : s.tOn.ev = false) (hline : s.tLine.ev = true) (hsh : s.shPhase = .idle) :
      CtrlMove s
        { shStart := some (s.rdBank, s.scan, 0), tLine := { clear := true }, xferLine := some s.scan
          scan := some (BitVec.ofNat 3 ((s.scan.toNat + 1) % s.cfg.nLines))
          phase := some (if (s.scan.toNat + 1) % s.cfg.nLines = 0 then .vsync else .lIdle) }
  | lineTick_skip (hph : s.phase = .lIdle) (hreq : s.stopReq = false) (hdone : s.evDone = false)
      (hon : s.tOn.ev = false) (hline : s.tLine.ev = true) (hsh : s.shPhase ≠ .idle) :
      CtrlMove s { tLine := { clear := true }, phase := some .lIdle }
  | lNop (hph : s.phase = .lIdle) (hreq : s.stopReq = false) (hdone : s.evDone = false)
      (hon : s.tOn.ev = false) (hline : s.tLine.ev = false) : CtrlMove s {}
  | lBlank (hph : s.phase = .lBlank) : CtrlMove s { oeN := some true, phase := some .lLatOn }
  | lLatOn (hph : s.phase = .lLatOn) :
      CtrlMove s
        { tOn := { start := some (duration s.onTime) }, lat := some true
          dly := some (BitVec.ofNat 16 s.cfg.latchHold), phase := some .lLatHold }
  | lLatHold_end (hph : s.phase = .lLatHold) (hdly : s.dly = 0) : CtrlMove s { phase := some .lLatOff }
  | lLatHold_more (hph : s.phase = .lLatHold) (hdly : s.dly ≠ 0) :
      CtrlMove s { dly := some (s.dly - 1), phase := some .lLatHold }
  | lLatOff (hph : s.phase = .lLatOff) : CtrlMove s { lat := some false, phase := some .lSetLine }
  | lSetLine (hph : s.phase = .lSetLine) : CtrlMove s { addr := some s.xferLine, phase := some .lUnblank }
  | lUnblank_dark (hph : s.phase = .lUnblank) (hon : s.tOn.ev = true) :
      CtrlMove s { tOn := { clear := true }, phase := some .lIdle }
  | lUnblank_lit (hph : s.phase = .lUnblank) (hon : s.tOn.ev = false) :
      CtrlMove s { oeN := some false, phase := some .lIdle }
  | lStopWait_idle (hph : s.phase = .lStopWait) (hsh : s.shPhase = .idle) :
      CtrlMove s { phase := some .lStopSafe }
  | lStopWait_timeout (hph : s.phase = .lStopWait) (hsh : s.shPhase ≠ .idle) (hcnt : s.stopCnt = 0) :
      CtrlMove s
        { shAbort := true, data := some 0, clk := some false, lat := some s.port.lat, oeN := some s.port.oeN
          addr := some s.port.addr, raised := { stopTimeout := true }, phase := some .lStopSafe }
  | lStopWait_more (hph : s.phase = .lStopWait) (hsh : s.shPhase ≠ .idle) (hcnt : s.stopCnt ≠ 0) :
      CtrlMove s { stopCnt := some (s.stopCnt - 1), phase := some .lStopWait }
  | lStopSafe (hph : s.phase = .lStopSafe) :
      CtrlMove s
        { data := some 0, clk := some false, lat := some false, oeN := some true, addr := some 0
          doneClear := true, phase := some .idle }

/-- `PACK` answers only where its bytes exist. -/
theorem effPack_eq_ok_iff {s : State} {e : Effect} : effPack s = .ok e ↔ PackFits s ∧ e = packEffect s := by
  unfold effPack
  cases hreads : packReadsExist s.params s.cfg <;> cases hwrites : packWritesExist s.params s.cfg <;>
    simp [PackFits, hreads, hwrites, packEffect, eq_comm]

theorem ctrlMove_prime {s : State} {c : Effect} (hph : s.phase = .prime) (h : effPrime s = .ok c) :
    CtrlMove s c := by
  unfold effPrime at h
  split at h
  · cases h
  · rename_i pk hpk
    obtain ⟨hfits, rfl⟩ := effPack_eq_ok_iff.mp hpk
    cases hreg : s.cfg.regime <;> rw [hreg] at h <;> cases h
    · exact .prime_bcm hph hfits hreg
    · exact .prime_line hph hfits hreg

theorem ctrlMove_vsync {s : State} {c : Effect} (hph : s.phase = .vsync) (h : effVsync s = .ok c) :
    CtrlMove s c := by
  unfold effVsync at h
  split at h
  · cases h
  · rename_i pk hpk
    obtain ⟨hfits, rfl⟩ := effPack_eq_ok_iff.mp hpk
    cases hreg : s.cfg.regime <;> rw [hreg] at h <;> cases h
    · exact .vsync_bcm hph hfits hreg
    · exact .vsync_line hph hfits hreg

theorem ctrlMove_lIdle {s : State} (hph : s.phase = .lIdle) : CtrlMove s (effLIdle s) := by
  unfold effLIdle
  split
  · exact .lStopReq hph ‹_›
  · exact .lDone hph ‹_› ‹_›
  · exact .onExpire hph ‹_› ‹_› ‹_›
  · unfold effLineTick
    split
    · exact .lineTick_start hph ‹_› ‹_› ‹_› ‹_› ‹_›
    · exact .lineTick_skip hph ‹_› ‹_› ‹_› ‹_› ‹_›
  · exact .lNop hph ‹_› ‹_› ‹_› ‹_›

theorem ctrlMove_lStopWait {s : State} (hph : s.phase = .lStopWait) : CtrlMove s (effLStopWait s) := by
  unfold effLStopWait
  split
  · exact .lStopWait_idle hph ‹_›
  · rename_i hbusy
    split
    · exact .lStopWait_timeout hph hbusy ‹_›
    · exact .lStopWait_more hph hbusy ‹_›

/-- All that the controller can do in a tick. -/
theorem ctrlMove_of_effectOf {s : State} {c : Effect} (h : effectOf s.phase.op s = .ok c) : CtrlMove s c := by
  cases hph : s.phase <;> rw [hph] at h
  case prime => exact ctrlMove_prime hph h
  case vsync => exact ctrlMove_vsync hph h
  all_goals cases h
  case lIdle => exact ctrlMove_lIdle hph
  case lStopWait => exact ctrlMove_lStopWait hph
  case idle => exact .idle hph
  case waitBit =>
    unfold effWaitBit
    split
    · exact .waitBit_event hph ‹_›
    · exact .waitBit_wait hph ‹_›
  case blank => exact .blank hph
  case shiftGo => exact .shiftGo hph
  case shiftWait =>
    unfold effShiftWait
    split
    · exact .shiftWait_done hph ‹_›
    · exact .shiftWait_wait hph ‹_›
  case latOn => exact .latOn hph
  case latHold =>
    unfold effLatHold
    split
    · exact .latHold_end hph ‹_›
    · exact .latHold_more hph ‹_›
  case latOff => exact .latOff hph
  case setLine =>
    rw [effSetLine, effLineSelect, lineTable_eq]
    exact .setLine hph
  case startDim =>
    rw [effStartDim, Cfg.tcs_nBits]
    exact .startDim hph
  case waitDim =>
    unfold effWaitDim
    split
    · exact .waitDim_event hph ‹_›
    · exact .waitDim_wait hph ‹_›
  case startBit => exact .startBit hph
  case unblank => exact .unblank hph
  case advance =>
    unfold effAdvance
    split
    · exact .advance_bit hph ‹_›
    · split
      · exact .advance_line hph ‹_› ‹_›
      · exact .advance_frame hph ‹_› ‹_›
  case lBlank => exact .lBlank hph
  case lLatOn => exact .lLatOn hph
  case lLatHold =>
    unfold effLLatHold
    split
    · exact .lLatHold_end hph ‹_›
    · exact .lLatHold_more hph ‹_›
  case lLatOff => exact .lLatOff hph
  case lSetLine =>
    rw [effLSetLine, effLineSelect, lineTable_eq]
    exact .lSetLine hph
  case lUnblank =>
    unfold effLUnblank
    split
    · exact .lUnblank_dark hph ‹_›
    · exact .lUnblank_lit hph ‹_›
  case lStopSafe => exact .lStopSafe hph

/-- The writes a controller operation can make. -/
def Effect.ctrlPart (e : Effect) : Effect :=
  { phase := e.phase, line := e.line, bit := e.bit, scan := e.scan, xferLine := e.xferLine, rdBank := e.rdBank
    dly := e.dly, stopCnt := e.stopCnt, stopReq := e.stopReq, data := e.data, clk := e.clk, lat := e.lat
    oeN := e.oeN, addr := e.addr, shStart := e.shStart, shAbort := e.shAbort, doneClear := e.doneClear
    tBcm := e.tBcm, tLine := e.tLine, tOn := e.tOn, raised := e.raised, bank := e.bank }

theorem CtrlMove.ctrlPart_eq {s : State} {c : Effect} (h : CtrlMove s c) : c.ctrlPart = c := by
  cases h <;> rfl

/-! ## The shifter -/

/-- What the shifter can write in a tick (42_shifter.md R110 to R117). -/
inductive ShiftMove (inp : TickIn) (s : State) : Effect → Prop where
  | idle (hsh : s.shPhase = .idle) : ShiftMove inp s {}
  | stall (hstall : stalled inp s = true) : ShiftMove inp s {}
  | data (hrun : stalled inp s = false) (hsh : s.shPhase = .data) (hoff : s.shOff < s.params.bpbCap) :
      ShiftMove inp s
        { shData := some (wireData s.cfg ((s.bank s.shBank).read s.shOff) s.shBit), shPhase := some .clkhi }
  | clkhi (hrun : stalled inp s = false) (hsh : s.shPhase = .clkhi) :
      ShiftMove inp s { shClk := some true, shPhase := some .clklo }
  | clklo_bit (hrun : stalled inp s = false) (hsh : s.shPhase = .clklo) (hbpp : s.cfg.bpp = .mono)
      (hbit : 0 < s.shBit.toNat) :
      ShiftMove inp s { shClk := some false, shBit := some (s.shBit - 1), shPhase := some .data }
  | clklo_byte (hrun : stalled inp s = false) (hsh : s.shPhase = .clklo)
      (hbit : s.cfg.bpp = .mono → s.shBit = 0) (hidx : s.shIdx.toNat + 1 < s.cfg.rowLen) :
      ShiftMove inp s
        { shClk := some false, shBit := some 7, shIdx := some (s.shIdx + 1), shPhase := some .data }
  | clklo_end (hrun : stalled inp s = false) (hsh : s.shPhase = .clklo)
      (hbit : s.cfg.bpp = .mono → s.shBit = 0) (hidx : ¬ s.shIdx.toNat + 1 < s.cfg.rowLen) :
      ShiftMove inp s { shClk := some false, shBit := some 7, shPhase := some .exit }
  | exit (hrun : stalled inp s = false) (hsh : s.shPhase = .exit) :
      ShiftMove inp s { shData := some 0, shClk := some false, shPhase := some .idle, doneSet := true }

theorem shiftMove_clklo {inp : TickIn} {s : State} (hrun : stalled inp s = false) (hsh : s.shPhase = .clklo) :
    ShiftMove inp s (effShClklo s) := by
  unfold effShClklo
  split
  · exact .clklo_bit hrun hsh (And.left ‹_›) (And.right ‹_›)
  · rename_i hlast
    have hbit : s.cfg.bpp = .mono → s.shBit = 0 := fun hmono =>
      BitVec.eq_of_toNat_eq (Nat.le_zero.mp (Nat.not_lt.mp fun hpos => hlast ⟨hmono, hpos⟩))
    split
    · exact .clklo_byte hrun hsh hbit ‹_›
    · exact .clklo_end hrun hsh hbit ‹_›

/-- All that the shifter can do in a tick. -/
theorem shiftMove_of_effectOf {inp : TickIn} {s : State} {e : Effect}
    (h : effectOf (shifterOp inp s) s = .ok e) : ShiftMove inp s e := by
  rw [shifterOp_eq] at h
  split at h
  · cases h
    exact .stall ‹_›
  · rename_i hstall
    have hrun : stalled inp s = false := Bool.eq_false_of_not_eq_true hstall
    cases hsh : s.shPhase <;> rw [hsh] at h
    case data =>
      change effShData s = .ok e at h
      unfold effShData at h
      split at h <;> cases h
      exact .data hrun hsh ‹_›
    case idle =>
      cases h
      exact .idle hsh
    case clkhi =>
      cases h
      exact .clkhi hrun hsh
    case clklo =>
      cases h
      exact shiftMove_clklo hrun hsh
    case exit =>
      cases h
      exact .exit hrun hsh

/-! ## The host -/

/-- The writes of host accesses that concern the host alone: flags, settings, staged registers and the answer. -/
def Effect.settingPart (e : Effect) : Effect :=
  { raised := e.raised, cleared := e.cleared, irqEn := e.irqEn, brightness := e.brightness, stg := e.stg
    rdData := e.rdData }

/-- What the host access of a tick can write, if there is one (40_host_commands.md R80 to R94). -/
inductive HostMove (inp : TickIn) (s : State) : Effect → Prop where
  | start (hop : inp.hostOp = some (HostWord.write 0x00 1)) (hph : s.phase = .idle) :
      HostMove inp s { phase := some .prime, line := some 0, bit := some 0, scan := some 0 }
  | stop (hop : inp.hostOp = some (HostWord.write 0x00 2)) (hph : s.phase ≠ .idle)
      (hreg : s.cfg.regime = .line) (hbusy : s.busy = false) : HostMove inp s { stopReq := some true }
  | modeset (hop : inp.hostOp = some (HostWord.write 0x00 3)) (hph : s.phase = .idle)
      (hfits : (validate s.params s.stg).fits s.params = true) :
      HostMove inp s { cfg := some (validate s.params s.stg) }
  | fbWrite (a v : Word) (hop : inp.hostOp = some (HostWord.write a v)) (hwin : InFbWindow s.params a) :
      HostMove inp s { fb := some (s.fb.write (fbOffset a) (v.setWidth 8)) }
  | setting {e : Effect} (he : e.settingPart = e) : HostMove inp s e

theorem hostMove_command {inp : TickIn} {s : State} {v : Word}
    (hop : inp.hostOp = some (HostWord.write 0x00 v)) :
    ∃ e, effectOf (decodeCommand v) s = .ok e ∧ HostMove inp s e := by
  unfold decodeCommand
  split
  · obtain rfl := word_eq_of_toNat ‹_›
    refine ⟨_, rfl, ?_⟩
    unfold effStart
    split
    · exact .start hop ‹_›
    · exact .setting rfl
  · obtain rfl := word_eq_of_toNat ‹_›
    refine ⟨_, rfl, ?_⟩
    unfold effStop
    split
    · exact .setting rfl
    · split
      · exact .stop hop ‹_› (And.left ‹_›) (And.right ‹_›)
      · exact .setting rfl
  · obtain rfl := word_eq_of_toNat ‹_›
    refine ⟨_, rfl, ?_⟩
    unfold effModeset
    split
    · exact .setting rfl
    · split
      · exact .modeset hop (not_not.mp ‹_›) ‹_›
      · exact .setting rfl
  · exact ⟨_, rfl, .setting rfl⟩

theorem hostMove_write {inp : TickIn} {s : State} {a v : Word} (hop : inp.hostOp = some (HostWord.write a v)) :
    ∃ e, effectOf (decodeWrite s.params a v) s = .ok e ∧ HostMove inp s e := by
  unfold decodeWrite
  split
  case h_1 =>
    obtain rfl := word_eq_of_toNat ‹_›
    exact hostMove_command hop
  case h_18 =>
    split
    · rename_i hwin
      refine ⟨_, rfl, ?_⟩
      rw [effFbWr, hwin]
      exact .fbWrite a v hop ((inFbWindow_iff _ _).mp hwin)
    · exact ⟨_, rfl, .setting rfl⟩
  all_goals exact ⟨_, rfl, .setting rfl⟩

theorem hostMove_read (inp : TickIn) (s : State) (a : Word) :
    ∃ e, effectOf (decodeRead s.params a) s = .ok e ∧ HostMove inp s e := by
  unfold decodeRead
  split
  · exact ⟨_, rfl, .setting rfl⟩
  · split
    · rename_i hwin
      refine ⟨_, rfl, ?_⟩
      rw [effFbRd, hwin]
      exact .setting rfl
    · exact ⟨_, rfl, .setting rfl⟩

theorem hostMove_of_hostOp {inp : TickIn} {s : State} {w : HostWord} (hop : inp.hostOp = some w) :
    ∃ e, effectOf (decodeHost s.params w) s = .ok e ∧ HostMove inp s e := by
  cases hrw : w.rw with
  | true =>
    rw [decodeHost_of_write _ hrw]
    exact hostMove_write (HostWord.eq_write hrw ▸ hop)
  | false =>
    rw [decodeHost_of_read _ hrw]
    exact hostMove_read inp s w.addr

/-- The host's part of a tick always answers. -/
theorem gather_hostOps_move (inp : TickIn) (s : State) :
    ∃ e, gather (hostOps inp s) s = .ok e ∧ HostMove inp s e := by
  cases hop : inp.hostOp with
  | none =>
    refine ⟨{}, ?_, .setting rfl⟩
    rw [hostOps, hop]
    rfl
  | some w =>
    obtain ⟨e, he, hmove⟩ := hostMove_of_hostOp (s := s) hop
    refine ⟨e, ?_, hmove⟩
    rw [hostOps, hop]
    exact (gather_cons_ok he rfl).trans (congrArg Except.ok e.join_empty)

theorem HostMove.hostPart_eq {inp : TickIn} {s : State} {e : Effect} (h : HostMove inp s e) : e.OfHost := by
  cases h with
  | setting he => rw [Effect.OfHost, ← he]; rfl
  | _ => rfl

/-- A running machine's phase, cursors and configuration are out of the host's reach (R87, R90). -/
theorem HostMove.of_running {inp : TickIn} {s : State} {e : Effect} (h : HostMove inp s e)
    (hrun : s.phase ≠ .idle) :
    e.phase = none ∧ e.line = none ∧ e.bit = none ∧ e.scan = none ∧ e.cfg = none := by
  cases h with
  | start _ hph => exact absurd hph hrun
  | modeset _ hph => exact absurd hph hrun
  | setting he => rw [← he]; exact ⟨rfl, rfl, rfl, rfl, rfl⟩
  | stop | fbWrite => exact ⟨rfl, rfl, rfl, rfl, rfl⟩

/-! ## The timer -/

/-- A match of the periodic channel reloads it (46_timer.md R172). -/
def periodicReq (s : State) : ChanReq := (effTmrMatchPeriodic s).tLine

theorem periodicReq_of_match {s : State} (h : chanMatches s.cnt s.tLine = true) :
    periodicReq s = { hit := some (s.tLine.cmp + duration s.cfg.linePeriod, true) } := by
  rw [periodicReq, effTmrMatchPeriodic, h]

theorem periodicReq_of_no_match {s : State} (h : chanMatches s.cnt s.tLine = false) : periodicReq s = {} := by
  rw [periodicReq, effTmrMatchPeriodic, h]

theorem effTmrMatchPeriodic_eq (s : State) : effTmrMatchPeriodic s = { tLine := periodicReq s } := by
  cases h : chanMatches s.cnt s.tLine with
  | true => rw [periodicReq_of_match h, effTmrMatchPeriodic, h]
  | false => rw [periodicReq_of_no_match h, effTmrMatchPeriodic, h]

/-- The writes of the timer in every tick (46_timer.md R170 to R172). -/
def timerEffect (s : State) : Effect :=
  { cnt := some (s.cnt + 1), tBcm := oneshotReq s.cnt s.tBcm, tLine := periodicReq s
    tOn := oneshotReq s.cnt s.tOn }

theorem gather_timerOps (s : State) : gather timerOps s = .ok (timerEffect s) := by
  have hop : effectOf .tmrMatchPeriodic s = .ok { tLine := periodicReq s } :=
    congrArg Except.ok (effTmrMatchPeriodic_eq s)
  refine (gather_cons_ok rfl (gather_cons_ok rfl (gather_cons_ok rfl (gather_cons_ok hop rfl)))).trans ?_
  simp [Effect.join, timerEffect, effTmrCount, effTmrMatchOneshot]

/-! ## The whole tick -/

/-- The writes of a tick, each field from the agents that own it; where two do, the controller's comes first
(20_memory.md R47, R49). -/
def tickEffect (s : State) (sh c ho : Effect) : Effect :=
  { phase := c.phase.or ho.phase, line := c.line.or ho.line, bit := c.bit.or ho.bit, scan := c.scan.or ho.scan
    xferLine := c.xferLine, rdBank := c.rdBank, dly := c.dly, stopCnt := c.stopCnt
    stopReq := c.stopReq.or ho.stopReq
    data := c.data, clk := c.clk, lat := c.lat, oeN := c.oeN, addr := c.addr
    shPhase := sh.shPhase, shIdx := sh.shIdx, shBit := sh.shBit, shData := sh.shData, shClk := sh.shClk
    shStart := c.shStart, shAbort := c.shAbort, doneSet := sh.doneSet, doneClear := c.doneClear
    cnt := some (s.cnt + 1)
    tBcm := (oneshotReq s.cnt s.tBcm).join c.tBcm
    tLine := (periodicReq s).join c.tLine
    tOn := (oneshotReq s.cnt s.tOn).join c.tOn
    raised := c.raised.union ho.raised, cleared := ho.cleared
    irqEn := ho.irqEn, brightness := ho.brightness, stg := ho.stg, cfg := ho.cfg, rdData := ho.rdData
    fb := ho.fb, bank := c.bank }

theorem join_eq_tickEffect (s : State) {sh c ho : Effect} (hsh : sh.OfShifter) (hc : c.ctrlPart = c)
    (hho : ho.OfHost) : (timerEffect s).join (sh.join (c.join ho)) = tickEffect s sh c ho := by
  rw [← hsh, ← hc, ← hho]
  simp [Effect.join, timerEffect, tickEffect, Effect.shifterPart, Effect.ctrlPart, Effect.hostPart]

/-- Two groups of operations that answer answer together. -/
theorem gather_append_of_ok {is js : List Instr} {s : State} {a b : Effect} (ha : gather is s = .ok a)
    (hb : gather js s = .ok b) : gather (is ++ js) s = .ok (a.join b) := by
  induction is generalizing a with
  | nil =>
    obtain rfl : {} = a := Except.ok.inj ha
    rwa [Effect.empty_join]
  | cons i is ih =>
    obtain ⟨c, d, hc, hd, rfl⟩ := gather_cons_eq_ok_iff.mp ha
    rw [Effect.join_assoc]
    exact gather_cons_ok hc (ih hd)

/-- A tick answers exactly where its shifter and its controller do. -/
theorem gather_fetch_eq_ok_iff {inp : TickIn} {s : State} {e : Effect} :
    gather (fetch inp s) s = .ok e ↔
      ∃ sh c ho, effectOf (shifterOp inp s) s = .ok sh ∧ effectOf s.phase.op s = .ok c ∧
        gather (hostOps inp s) s = .ok ho ∧ e = tickEffect s sh c ho := by
  constructor
  · intro h
    obtain ⟨tm, agents, htm, hagents, rfl⟩ := gather_append_ok h
    obtain ⟨sh, others, hsh, hothers, rfl⟩ := gather_cons_eq_ok_iff.mp hagents
    obtain ⟨c, ho, hc, hho, rfl⟩ := gather_cons_eq_ok_iff.mp hothers
    obtain rfl : timerEffect s = tm := Except.ok.inj ((gather_timerOps s).symm.trans htm)
    obtain ⟨ho', hho', hmove⟩ := gather_hostOps_move inp s
    obtain rfl : ho' = ho := Except.ok.inj (hho'.symm.trans hho)
    rw [effectOf_controllerOp] at hc
    exact ⟨sh, c, ho', hsh, hc, hho,
      join_eq_tickEffect s (shifterOp_ofShifter hsh) (ctrlMove_of_effectOf hc).ctrlPart_eq hmove.hostPart_eq⟩
  · rintro ⟨sh, c, ho, hsh, hc, hho, rfl⟩
    obtain ⟨ho', hho', hmove⟩ := gather_hostOps_move inp s
    obtain rfl : ho' = ho := Except.ok.inj (hho'.symm.trans hho)
    rw [← join_eq_tickEffect s (shifterOp_ofShifter hsh) (ctrlMove_of_effectOf hc).ctrlPart_eq hmove.hostPart_eq]
    rw [← effectOf_controllerOp] at hc
    exact gather_append_of_ok (gather_timerOps s) (gather_cons_ok hsh (gather_cons_ok hc hho))

/-- The agents' writes of a tick that leads from `s`. -/
structure Moves (s : State) (sh c ho : Effect) : Prop where
  shift : ShiftMove s.input s.beginTick sh
  ctrl : CtrlMove s.beginTick c
  host : HostMove s.input s.beginTick ho

/-- All that a tick other than a reset tick can answer as a next state. -/
theorem step_eq_next_cases {s t : State} (hrst : s.input.rst = false) (h : step s = .next t) :
    ∃ sh c ho, Moves s sh c ho ∧ t = commit s.beginTick (tickEffect s.beginTick sh c ho) := by
  obtain ⟨hreset, -⟩ | ⟨-, e, he, rfl⟩ := step_eq_next_iff.mp h
  · exact absurd (hreset.symm.trans hrst) (by decide)
  obtain ⟨sh, c, ho, hsh, hc, hho, rfl⟩ := gather_fetch_eq_ok_iff.mp he
  obtain ⟨ho', hho', hmove⟩ := gather_hostOps_move s.input s.beginTick
  obtain rfl : ho' = ho := Except.ok.inj (hho'.symm.trans hho)
  exact ⟨sh, c, ho', ⟨shiftMove_of_effectOf hsh, ctrlMove_of_effectOf hc, hmove⟩, rfl⟩

end Sys2Proof.Machine
end

section
/-! PROOFS. The active configuration (10_state.md R22; 30_encoding.md R67; 40_host_commands.md R90): validation gives
a legal one and keeps a valid one, and what a legal one computes fits its registers and the timer. -/

namespace Sys2Proof.Machine

/-! ## Rounding up -/

theorem dvd_roundUp (v m : Nat) : m ∣ roundUp v m := Nat.dvd_mul_left m _

theorem le_roundUp (v : Nat) {m : Nat} (hm : 0 < m) : v ≤ roundUp v m := by
  have h := Nat.lt_div_mul_add (a := v + m - 1) hm
  unfold roundUp
  omega

theorem roundUp_lt (v : Nat) {m : Nat} (hm : 0 < m) : roundUp v m < v + m := by
  have h := Nat.div_mul_le_self (v + m - 1) m
  unfold roundUp
  omega

/-- The multiples of `m` are at least `m` apart. -/
theorem eq_roundUp {v w m : Nat} (hdvd : m ∣ w) (hlow : v ≤ w) (hhigh : w < v + m) : roundUp v m = w := by
  have hm : 0 < m := by omega
  obtain ⟨q, hq⟩ := dvd_roundUp v m
  obtain ⟨k, rfl⟩ := hdvd
  have h1 := le_roundUp v hm
  have h2 := roundUp_lt v hm
  rw [hq] at h1 h2 ⊢
  have hqk : q < k + 1 := Nat.lt_of_mul_lt_mul_left (a := m) (by rw [Nat.mul_succ]; omega)
  have hkq : k < q + 1 := Nat.lt_of_mul_lt_mul_left (a := m) (by rw [Nat.mul_succ]; omega)
  rw [show q = k by omega]

/-- A multiple is rounded up already. -/
theorem roundUp_of_dvd {v m : Nat} (hm : 0 < m) (h : m ∣ v) : roundUp v m = v :=
  eq_roundUp h (Nat.le_refl v) (Nat.lt_add_of_pos_right hm)

theorem clampTo_of_mem {v lo hi : Nat} (hlo : lo ≤ v) (hhi : v ≤ hi) : clampTo v lo hi = v := by
  rw [clampTo, if_neg (Nat.not_lt.mpr hlo), if_neg (Nat.not_lt.mpr hhi)]

/-! ## The ranges of a computed configuration -/

section
variable (p : Params) (g : Stg)

theorem validate_nLines_pos : 1 ≤ (validate p g).nLines := by
  rw [validate_nLines]
  exact Nat.le_max_left _ _

theorem validate_nBits_mem : 1 ≤ (validate p g).nBits ∧ (validate p g).nBits ≤ 8 := by
  rw [validate_nBits]
  split <;> omega

theorem validate_panelW_mem :
    8 ≤ (validate p g).panelW ∧ (validate p g).panelW ≤ 1024 ∧ (validate p g).panelW % 8 = 0 := by
  rw [validate_panelW]
  omega

theorem validate_panelH_rgb (h : (validate p g).bpp = .rgb) :
    (validate p g).panelH = 2 * (validate p g).nLines := by
  rw [validate_panelH, h]

/-- R90: the panel height of the mono format. -/
theorem validate_panelH_mono (h : (validate p g).bpp = .mono) :
    (validate p g).panelH =
      roundUp (clampTo g.panelH.toNat (validate p g).nLines 1024) (validate p g).nLines := by
  change (match (validate p g).bpp with | .rgb => _ | .mono => _) = _
  rw [h]
  rfl

theorem validate_panelH_mono_mem (h : (validate p g).bpp = .mono) :
    (validate p g).nLines ∣ (validate p g).panelH ∧ (validate p g).nLines ≤ (validate p g).panelH ∧
      (validate p g).panelH ≤ 1024 + 7 := by
  have hpos := validate_nLines_pos p g
  have hle := validate_nLines_le p g
  rw [validate_panelH_mono p g h]
  have hclamp := clampTo_eq_max_min g.panelH.toNat (hle.trans (show 8 ≤ 1024 by decide))
  have hlow := le_roundUp (clampTo g.panelH.toNat (validate p g).nLines 1024) hpos
  have hhigh := roundUp_lt (clampTo g.panelH.toNat (validate p g).nLines 1024) hpos
  exact ⟨dvd_roundUp _ _, by omega, by omega⟩

theorem validate_panelH_pos : 0 < (validate p g).panelH := by
  have hpos := validate_nLines_pos p g
  cases h : (validate p g).bpp with
  | rgb =>
    rw [validate_panelH_rgb p g h]
    omega
  | mono =>
    obtain ⟨-, hle, -⟩ := validate_panelH_mono_mem p g h
    omega

theorem validate_panelW_pos : 0 < (validate p g).panelW := by
  have := (validate_panelW_mem p g).1
  omega

theorem validate_xres : (validate p g).xres = roundUp (max g.xres.toNat 1) (validate p g).panelW := rfl

theorem validate_yres : (validate p g).yres = roundUp (max g.yres.toNat 1) (validate p g).panelH := rfl

theorem validate_xres_eq : (validate p g).xres = (validate p g).cols * (validate p g).panelW :=
  (Nat.div_mul_cancel (dvd_roundUp _ _)).symm

theorem validate_yres_eq : (validate p g).yres = (validate p g).rows * (validate p g).panelH :=
  (Nat.div_mul_cancel (dvd_roundUp _ _)).symm

theorem validate_xres_pos : 0 < (validate p g).xres := by
  have h := le_roundUp (max g.xres.toNat 1) (validate_panelW_pos p g)
  rw [validate_xres]
  omega

theorem validate_yres_pos : 0 < (validate p g).yres := by
  have h := le_roundUp (max g.yres.toNat 1) (validate_panelH_pos p g)
  rw [validate_yres]
  omega

theorem validate_cols_pos : 1 ≤ (validate p g).cols :=
  Nat.pos_of_mul_pos_right (validate_xres_eq p g ▸ validate_xres_pos p g)

theorem validate_rows_pos : 1 ≤ (validate p g).rows :=
  Nat.pos_of_mul_pos_right (validate_yres_eq p g ▸ validate_yres_pos p g)

theorem validate_rowLen_rgb (h : (validate p g).bpp = .rgb) :
    (validate p g).rowLen = (validate p g).panelW * (validate p g).nPanels := by
  change (match (validate p g).bpp with | .rgb => _ | .mono => _) = _
  rw [h]
  rfl

theorem validate_rowLen_mono (h : (validate p g).bpp = .mono) :
    (validate p g).rowLen =
      (validate p g).panelW * (validate p g).panelH * (validate p g).nPanels / (8 * (validate p g).nLines) := by
  change (match (validate p g).bpp with | .rgb => _ | .mono => _) = _
  rw [h]
  rfl

theorem validate_fbBytes_rgb (h : (validate p g).bpp = .rgb) :
    (validate p g).fbBytes = 3 * (validate p g).xres * (validate p g).yres := by
  change (match (validate p g).bpp with | .rgb => _ | .mono => _) = _
  rw [h]
  rfl

theorem validate_fbBytes_mono (h : (validate p g).bpp = .mono) :
    (validate p g).fbBytes = (validate p g).xres * (validate p g).yres / 8 := by
  change (match (validate p g).bpp with | .rgb => _ | .mono => _) = _
  rw [h]
  rfl

theorem validate_rowLen_pos : 1 ≤ (validate p g).rowLen := by
  have hpanels : 0 < (validate p g).nPanels := Nat.mul_pos (validate_cols_pos p g) (validate_rows_pos p g)
  have hlines := validate_nLines_pos p g
  cases h : (validate p g).bpp with
  | rgb =>
    rw [validate_rowLen_rgb p g h]
    exact Nat.mul_pos (validate_panelW_pos p g) hpanels
  | mono =>
    obtain ⟨-, hle, -⟩ := validate_panelH_mono_mem p g h
    rw [validate_rowLen_mono p g h, Nat.one_le_div_iff (by omega)]
    calc 8 * (validate p g).nLines ≤ (validate p g).panelW * (validate p g).panelH :=
          Nat.mul_le_mul (validate_panelW_mem p g).1 hle
      _ ≤ (validate p g).panelW * (validate p g).panelH * (validate p g).nPanels := Nat.le_mul_of_pos_right _ hpanels

end

/-- Settles O11: every clause of R22 from the ranges above; the two capacities are the test's. -/
theorem modesetGivesLegalConfiguration : Obligations.ModesetGivesLegalConfiguration := by
  intro p g hp hfb hbpb
  refine ⟨⟨validate_nLines_pos p g, validate_nLines_le p g⟩, ?_, validate_panelW_mem p g, ?_,
    ⟨validate_xres_eq p g, validate_yres_eq p g, validate_cols_pos p g, validate_rows_pos p g, rfl⟩, ?_, ?_,
    ⟨rfl, rfl, rfl⟩⟩
  · obtain ⟨hlow, hhigh⟩ := validate_nBits_mem p g
    refine ⟨hlow, hhigh, fun hone => ?_⟩
    rw [validate_nBits, if_pos hone.symm]
  · refine ⟨validate_panelH_rgb p g, fun h => ?_⟩
    obtain ⟨hdvd, hlow, hhigh⟩ := validate_panelH_mono_mem p g h
    exact ⟨Nat.mod_eq_zero_of_dvd hdvd, hlow, hhigh⟩
  · exact ⟨fun h => ⟨validate_rowLen_rgb p g h, validate_fbBytes_rgb p g h⟩,
      fun h => ⟨validate_rowLen_mono p g h, validate_fbBytes_mono p g h⟩, validate_rowLen_pos p g, rfl, hfb, hbpb⟩
  · have hlatch : (validate p g).latchHold < 2 ^ 16 := g.latchHold.isLt
    have hstop : (validate p g).stopTimeout < 2 ^ 32 := g.stopTimeout.isLt
    have href : g.refresh.toNat < 2 ^ 16 := g.refresh.isLt
    rw [validate_bcmUnit, validate_dimTicks, validate_refresh]
    refine ⟨?_, ?_, ?_, hlatch, hstop, ?_, ?_⟩ <;> omega

/-! ## Validation of a validated configuration -/

/-- Everything in a computed configuration that follows from the rest of it (R90). -/
def Cfg.derived (p : Params) (c : Cfg) : Cfg :=
  let nPanels := c.xres / c.panelW * (c.yres / c.panelH)
  let rowLen :=
    match c.bpp with
    | .rgb => c.panelW * nPanels
    | .mono => c.panelW * c.panelH * nPanels / (8 * c.nLines)
  let xferTicks := c.bpp.perByte * rowLen + 1
  let minPeriod := xferTicks + c.latchHold + 10
  { c with
    cols := c.xres / c.panelW, rows := c.yres / c.panelH, nPanels, rowLen
    fbBytes := (match c.bpp with | .rgb => 3 * c.xres * c.yres | .mono => c.xres * c.yres / 8)
    bpbBytes := c.nLines * c.nBits * rowLen, xferTicks, minPeriod
    linePeriod := max minPeriod (p.tickHz / (c.refresh * c.nLines)) }

theorem validate_eq_derived (p : Params) (g : Stg) : validate p g = (validate p g).derived p := rfl

theorem toNat_ofNat_of_lt {w n : Nat} (h : n < 2 ^ w) : (BitVec.ofNat w n).toNat = n :=
  (BitVec.toNat_ofNat n w).trans (Nat.mod_eq_of_lt h)

theorem getLsbD_flags (c : Cfg) :
    c.flags.getLsbD 0 = c.wiring.bit ∧ c.flags.getLsbD 1 = c.bitrev ∧ c.flags.getLsbD 2 = c.regime.bit := by
  unfold Cfg.flags
  generalize c.wiring.bit = w, c.bitrev = b, c.regime.bit = r
  revert w b r
  decide

theorem Regime.bit_eq_true_iff (r : Regime) : r.bit = true ↔ r = .line := by cases r <;> decide

theorem Wiring.bit_eq_true_iff (w : Wiring) : w.bit = true ↔ w = .horizontal := by cases w <;> decide

theorem Regime.eq_of_line_iff {r r' : Regime} (h : r = .line ↔ r' = .line) : r = r' := by
  cases r <;> cases r' <;> simp_all

theorem Wiring.eq_of_horizontal_iff {w w' : Wiring} (h : w = .horizontal ↔ w' = .horizontal) : w = w' := by
  cases w <;> cases w' <;> simp_all

theorem PixelFormat.eq_of_mono_iff {b b' : PixelFormat} (h : b = .mono ↔ b' = .mono) : b = b' := by
  cases b <;> cases b' <;> simp_all

theorem PixelFormat.bpp_le_one_iff (b : PixelFormat) : b.bpp ≤ 1 ↔ b = .mono := by cases b <;> decide

section
variable (p : Params) (g : Stg)

theorem validate_staged_regime : (validate p (validate p g).staged).regime = (validate p g).regime := by
  refine Regime.eq_of_line_iff ?_
  rw [validate_regime_eq_line_iff, ← Regime.bit_eq_true_iff, ← (getLsbD_flags (validate p g)).2.2]
  rfl

theorem validate_staged_wiring : (validate p (validate p g).staged).wiring = (validate p g).wiring := by
  refine Wiring.eq_of_horizontal_iff ?_
  rw [validate_wiring_eq_horizontal_iff, ← Wiring.bit_eq_true_iff, ← (getLsbD_flags (validate p g)).1]
  rfl

theorem validate_staged_bitrev : (validate p (validate p g).staged).bitrev = (validate p g).bitrev :=
  (getLsbD_flags (validate p g)).2.1

theorem validate_staged_bpp : (validate p (validate p g).staged).bpp = (validate p g).bpp := by
  refine PixelFormat.eq_of_mono_iff ?_
  have hsmall : (validate p g).bpp.bpp < 2 ^ 8 := by cases (validate p g).bpp <;> decide
  rw [validate_bpp_eq_mono_iff, Cfg.staged, toNat_ofNat_of_lt hsmall, PixelFormat.bpp_le_one_iff]

theorem validate_staged_nLines : (validate p (validate p g).staged).nLines = (validate p g).nLines := by
  have hlow := validate_nLines_pos p g
  have hhigh := validate_nLines_le p g
  rw [validate_nLines, Cfg.staged, toNat_ofNat_of_lt (by omega)]
  omega

theorem validate_staged_nBits : (validate p (validate p g).staged).nBits = (validate p g).nBits := by
  obtain ⟨hlow, hhigh⟩ := validate_nBits_mem p g
  have hdef := validate_nBits p g
  rw [validate_nBits, validate_staged_regime, validate_staged_bpp, Cfg.staged, toNat_ofNat_of_lt (by omega)]
  split
  · rw [hdef, if_pos ‹_›]
  · omega

theorem validate_staged_panelW : (validate p (validate p g).staged).panelW = (validate p g).panelW := by
  obtain ⟨hlow, hhigh, hmul⟩ := validate_panelW_mem p g
  rw [validate_panelW, Cfg.staged, toNat_ofNat_of_lt (by omega)]
  omega

/-- R90: a mono height above 1024 was rounded up from 1024, and is again. -/
theorem validate_staged_panelH : (validate p (validate p g).staged).panelH = (validate p g).panelH := by
  have hlines := validate_staged_nLines p g
  have hpos := validate_nLines_pos p g
  have hle := validate_nLines_le p g
  cases h : (validate p g).bpp with
  | rgb =>
    rw [validate_panelH_rgb p _ ((validate_staged_bpp p g).trans h), hlines, validate_panelH_rgb p g h]
  | mono =>
    obtain ⟨hdvd, hlow, hhigh⟩ := validate_panelH_mono_mem p g h
    rw [validate_panelH_mono p _ ((validate_staged_bpp p g).trans h), hlines, Cfg.staged,
      toNat_ofNat_of_lt (by omega)]
    by_cases hfit : (validate p g).panelH ≤ 1024
    · rw [clampTo_of_mem hlow hfit, roundUp_of_dvd hpos hdvd]
    · have hcut : clampTo (validate p g).panelH (validate p g).nLines 1024 = 1024 := by
        rw [clampTo_eq_max_min _ (by omega)]
        omega
      have hclamp : clampTo g.panelH.toNat (validate p g).nLines 1024 ≤ 1024 := by
        rw [clampTo_eq_max_min _ (by omega)]
        omega
      have hnear := roundUp_lt (clampTo g.panelH.toNat (validate p g).nLines 1024) hpos
      rw [← validate_panelH_mono p g h] at hnear
      rw [hcut]
      exact eq_roundUp hdvd (by omega) (by omega)

theorem validate_staged_xres (hx : (validate p g).xres < 2 ^ 16) :
    (validate p (validate p g).staged).xres = (validate p g).xres := by
  have hpos := validate_xres_pos p g
  rw [validate_xres, validate_staged_panelW, Cfg.staged, toNat_ofNat_of_lt hx, Nat.max_eq_left hpos]
  exact roundUp_of_dvd (validate_panelW_pos p g) (dvd_roundUp _ _)

theorem validate_staged_yres (hy : (validate p g).yres < 2 ^ 16) :
    (validate p (validate p g).staged).yres = (validate p g).yres := by
  have hpos := validate_yres_pos p g
  rw [validate_yres, validate_staged_panelH, Cfg.staged, toNat_ofNat_of_lt hy, Nat.max_eq_left hpos]
  exact roundUp_of_dvd (validate_panelH_pos p g) (dvd_roundUp _ _)

theorem validate_staged_bcmUnit : (validate p (validate p g).staged).bcmUnit = (validate p g).bcmUnit := by
  have hdef := validate_bcmUnit p g
  rw [validate_bcmUnit, Cfg.staged, toNat_ofNat_of_lt (by omega)]
  omega

theorem validate_staged_dimTicks : (validate p (validate p g).staged).dimTicks = (validate p g).dimTicks := by
  have hdef := validate_dimTicks p g
  rw [validate_dimTicks, Cfg.staged, toNat_ofNat_of_lt (by omega)]
  omega

theorem validate_staged_latchHold : (validate p (validate p g).staged).latchHold = (validate p g).latchHold :=
  toNat_ofNat_of_lt g.latchHold.isLt

theorem validate_staged_stopTimeout :
    (validate p (validate p g).staged).stopTimeout = (validate p g).stopTimeout :=
  toNat_ofNat_of_lt g.stopTimeout.isLt

theorem validate_staged_refresh : (validate p (validate p g).staged).refresh = (validate p g).refresh := by
  have hdef := validate_refresh p g
  have hlt := g.refresh.isLt
  rw [validate_refresh, Cfg.staged, toNat_ofNat_of_lt (by omega)]
  omega

end

/-- Settles O12: each field that validation takes from the staged registers comes out as it was, and the others
follow from these. -/
theorem validationIsIdempotent : Obligations.ValidationIsIdempotent := by
  intro p g hx hy
  refine (validate_eq_derived p _).trans (Eq.trans ?_ (validate_eq_derived p g).symm)
  simp only [Cfg.derived, validate_staged_regime, validate_staged_wiring,
    validate_staged_bitrev, validate_staged_bpp, validate_staged_nLines, validate_staged_nBits,
    validate_staged_panelW, validate_staged_panelH, validate_staged_xres p g hx, validate_staged_yres p g hy,
    validate_staged_bcmUnit, validate_staged_dimTicks, validate_staged_latchHold, validate_staged_stopTimeout,
    validate_staged_refresh]

/-! ## What a legal configuration computes -/

section
variable {p : Params} {c : Cfg} (hp : p.Legal) (hc : c.Legal p)

include hc in
theorem Cfg.Legal.nLines_mem : 1 ≤ c.nLines ∧ c.nLines ≤ 8 := hc.1

include hc in
theorem Cfg.Legal.nBits_mem : 1 ≤ c.nBits ∧ c.nBits ≤ 8 := by
  obtain ⟨-, ⟨hlow, hhigh, -⟩, -⟩ := hc
  exact ⟨hlow, hhigh⟩

include hc in
theorem Cfg.Legal.panelH_mem : 1 ≤ c.panelH ∧ c.panelH ≤ 1031 := by
  obtain ⟨⟨hlow, hhigh⟩, -, -, ⟨hrgb, hmono⟩, -⟩ := hc
  cases h : c.bpp with
  | rgb =>
    have := hrgb h
    omega
  | mono =>
    obtain ⟨-, h1, h2⟩ := hmono h
    omega

include hp hc in
theorem Cfg.Legal.rowLen_le : c.rowLen ≤ 2 ^ 24 := by
  obtain ⟨-, -, -, hcap, -⟩ := hp
  obtain ⟨⟨hlines, -⟩, ⟨hbits, -⟩, -, -, -, ⟨-, -, -, hbytes, -, hfit⟩, -⟩ := hc
  calc c.rowLen ≤ c.nLines * c.nBits * c.rowLen := Nat.le_mul_of_pos_left _ (Nat.mul_pos hlines hbits)
    _ = c.bpbBytes := hbytes.symm
    _ ≤ p.bpbCap := hfit
    _ ≤ 2 ^ 24 := hcap

/-- The pixels of the display are those of the rows of one line of every panel. -/
theorem Cfg.Legal.pixels_eq (hc : c.Legal p) :
    c.xres * c.yres = (match c.bpp with | .rgb => 2 | .mono => 8) * c.nLines * c.rowLen := by
  obtain ⟨⟨hlines, -⟩, -, ⟨-, -, hw⟩, ⟨hrgbH, hmonoH⟩, ⟨hx, hy, -, -, hpanels⟩, ⟨hrgb, hmono, -⟩, -⟩ := hc
  cases h : c.bpp with
  | rgb =>
    rw [hx, hy, (hrgb h).1, hrgbH h, hpanels]
    ring
  | mono =>
    obtain ⟨bpr, hbpr⟩ := Nat.dvd_of_mod_eq_zero hw
    obtain ⟨groups, hgroups⟩ := Nat.dvd_of_mod_eq_zero (hmonoH h).1
    have hsize : c.panelW * c.panelH * c.nPanels = 8 * c.nLines * (bpr * groups * (c.cols * c.rows)) := by
      rw [hbpr, hgroups, hpanels]
      ring
    rw [(hmono h).1, hsize, Nat.mul_div_cancel_left _ (by omega), hx, hy, hbpr, hgroups]
    ring

include hp hc in
theorem Cfg.Legal.pixels_le : c.xres * c.yres ≤ 2 ^ 30 := by
  have hrow := hc.rowLen_le hp
  obtain ⟨-, hlines⟩ := hc.nLines_mem
  have hformat : (match c.bpp with | .rgb => 2 | .mono => 8) ≤ 8 := by cases c.bpp <;> decide
  calc c.xres * c.yres = (match c.bpp with | .rgb => 2 | .mono => 8) * c.nLines * c.rowLen := hc.pixels_eq
    _ ≤ 8 * 8 * 2 ^ 24 := Nat.mul_le_mul (Nat.mul_le_mul hformat hlines) hrow
    _ = 2 ^ 30 := by norm_num

include hc in
theorem Cfg.Legal.xres_pos : 1 ≤ c.cols ∧ c.cols ≤ c.xres := by
  obtain ⟨-, -, ⟨hw, -⟩, -, ⟨hx, -, hcols, -⟩, -⟩ := hc
  exact ⟨hcols, hx ▸ Nat.le_mul_of_pos_right _ (by omega)⟩

include hc in
theorem Cfg.Legal.yres_pos : 1 ≤ c.rows ∧ c.rows ≤ c.yres := by
  have hh := hc.panelH_mem
  obtain ⟨-, -, -, -, ⟨-, hy, -, hrows, -⟩, -⟩ := hc
  exact ⟨hrows, hy ▸ Nat.le_mul_of_pos_right _ hh.1⟩

include hp hc in
theorem Cfg.Legal.minPeriod_lt : c.minPeriod < 2 ^ 29 := by
  have hrow := hc.rowLen_le hp
  obtain ⟨-, -, -, -, -, -, ⟨-, -, -, hlatch, -⟩, ⟨hxfer, hmin, -⟩⟩ := hc
  have hbyte : c.bpp.perByte * c.rowLen ≤ 24 * c.rowLen :=
    Nat.mul_le_mul_right _ (by cases c.bpp <;> decide)
  omega

include hp hc in
theorem Cfg.Legal.linePeriod_lt : c.linePeriod < 2 ^ 32 := by
  have hmin := hc.minPeriod_lt hp
  obtain ⟨-, -, -, -, -, htick⟩ := hp
  obtain ⟨-, -, -, -, -, -, -, ⟨-, -, hline⟩⟩ := hc
  rw [hline]
  exact Nat.max_lt.mpr ⟨by omega, (Nat.div_le_self _ _).trans_lt htick⟩

/-- R67: the longest plane is 128 units. -/
theorem Cfg.Legal.unit_le (hc : c.Legal p) {k : Nat} (hk : k < c.nBits) :
    c.bcmUnit * 2 ^ k ≤ (2 ^ 24 - 1) * 2 ^ 7 := by
  obtain ⟨-, hbits⟩ := hc.nBits_mem
  obtain ⟨-, -, -, -, -, -, ⟨-, hunit, -⟩, -⟩ := hc
  exact Nat.mul_le_mul (by omega) (Nat.pow_le_pow_right (by decide) (by omega))

end

/-- R159: no more than the whole period. -/
theorem State.onTime_le (s : State) : s.onTime ≤ s.cfg.linePeriod := by
  refine Nat.div_le_of_le_mul ?_
  rw [Nat.mul_comm 255]
  exact Nat.mul_le_mul_left _ (Nat.le_of_lt_succ s.brightness.isLt)

/-- Settles O13. -/
theorem durationsDoubleAndFit : Obligations.DurationsDoubleAndFit := by
  intro s hp hc
  obtain ⟨hbits, -⟩ := hc.nBits_mem
  have htcs0 : s.cfg.tcs 0 = s.cfg.bcmUnit := by rw [Cfg.tcs_of_lt (by omega), Nat.pow_zero, Nat.mul_one]
  obtain ⟨-, -, -, -, -, -, ⟨hunit, -, hdim, -⟩, ⟨-, -, hline⟩⟩ := id hc
  refine ⟨fun k hk => ⟨Cfg.tcs_of_lt hk, ?_⟩, Cfg.tcs_nBits _, htcs0 ▸ hunit, fun k hk => ?_, ?_,
    hc.minPeriod_lt hp, ?_, hc.linePeriod_lt hp, s.onTime_le⟩
  · rw [Cfg.tcs_of_lt hk, htcs0, Nat.mul_comm]
  · rw [Cfg.tcs_of_lt hk]
    exact hc.unit_le hk
  · rwa [Cfg.tcs_nBits]
  · rw [hline]
    exact Nat.le_max_left _ _

/-! ## What the host reads of it -/

theorem toNat_regValue {w n : Nat} (hw : w ≤ 32) (h : n < 2 ^ w) : (regValue w n).toNat = n := by
  rw [regValue, BitVec.toNat_setWidth, toNat_ofNat_of_lt h,
    Nat.mod_eq_of_lt (h.trans_le (Nat.pow_le_pow_right (by decide) hw))]

/-- R62, R67: `A_FLAGS` bit by bit. -/
theorem aFlags_bits (c : Cfg) :
    (c.flags.setWidth 32).getLsbD 0 = decide (c.wiring = .horizontal) ∧
      (c.flags.setWidth 32).getLsbD 1 = c.bitrev ∧ (c.flags.setWidth 32).getLsbD 2 = decide (c.regime = .line) ∧
      c.flags.setWidth 32 >>> 3 = 0 := by
  unfold Cfg.flags
  cases c.wiring <;> cases c.regime <;> cases c.bitrev <;> decide

/-- Settles O18. -/
theorem activeRegistersReadTheirFields : Obligations.ActiveRegistersReadTheirFields := by
  intro s hp hc
  have hpix := hc.pixels_le hp
  obtain ⟨hcols, hx⟩ := hc.xres_pos
  obtain ⟨hrows, hy⟩ := hc.yres_pos
  have hxle : s.cfg.xres ≤ s.cfg.xres * s.cfg.yres := Nat.le_mul_of_pos_right _ (by omega)
  have hyle : s.cfg.yres ≤ s.cfg.xres * s.cfg.yres := Nat.le_mul_of_pos_left _ (by omega)
  have hple : s.cfg.cols * s.cfg.rows ≤ s.cfg.xres * s.cfg.yres := Nat.mul_le_mul hx hy
  have hrow := hc.rowLen_le hp
  have hmin := hc.minPeriod_lt hp
  have hline := hc.linePeriod_lt hp
  have hH := hc.panelH_mem
  obtain ⟨hf0, hf1, hf2, hf3⟩ := aFlags_bits s.cfg
  have hbpp : s.cfg.bpp.bpp < 2 ^ 8 := by cases s.cfg.bpp <;> decide
  obtain ⟨-, hfbCap, -, hbpbCap, -⟩ := hp
  obtain ⟨⟨-, hlines⟩, ⟨-, hbits, -⟩, ⟨-, hW, -⟩, -, ⟨-, -, -, -, hpanels⟩, ⟨-, -, -, -, hfb, hbpb⟩,
    ⟨-, hunit, hdim, hlatch, hstop, -, href⟩, -⟩ := hc
  refine ⟨toNat_regValue (by decide) (by omega), toNat_regValue (by decide) (by omega),
    toNat_regValue (by decide) hbpp, toNat_regValue (by decide) (by omega),
    toNat_regValue (by decide) (by omega), toNat_regValue (by decide) (by omega),
    toNat_regValue (by decide) (by omega), toNat_regValue (by decide) (by omega), hf0, hf1, hf2, hf3,
    toNat_regValue (by decide) (by omega), toNat_regValue (by decide) (by omega),
    toNat_regValue (by decide) hlatch, toNat_regValue (by decide) hstop,
    toNat_regValue (by decide) (by omega), toNat_regValue (by decide) (by omega),
    toNat_regValue (by decide) hline, toNat_regValue (by decide) (by omega),
    toNat_regValue (by decide) (by omega), toNat_regValue (by decide) (by omega),
    toNat_regValue (by decide) (by omega), toNat_regValue (by decide) (by omega)⟩

end Sys2Proof.Machine
end

section
/-! PROOFS. The invariant is kept: resting states first, then each clause for a tick of a running machine, from what
the controller, the shifter and the host can do in it. -/

namespace Sys2Proof.Machine

/-! ## States at rest -/

theorem resting_iff (ph : Phase) : ph.resting = true ↔ ph = .idle ∨ ph = .prime := by cases ph <;> decide

/-- In the phases before the first frame the invariant says that everything is quiet. -/
theorem inv_of_resting {s : State} (hrest : s.phase.resting = true) (hp : s.params.Legal)
    (hc : s.cfg.Legal s.params) (hline : s.line = 0) (hbit : s.bit = 0)
    (hscan : s.phase ≠ .idle → s.scan.toNat < s.cfg.nLines) (hsh : s.shPhase = .idle) (hdone : s.evDone = false)
    (hport : s.port = Port.safe) (hbcm : s.tBcm.Quiet) (hln : s.tLine.Quiet) (hon : s.tOn.Quiet)
    (hstop : s.stopReq = false) (hmem : InvMem s) : Inv s := by
  obtain ⟨hlines, -⟩ := hc.nLines_mem
  obtain ⟨hbits, -⟩ := hc.nBits_mem
  obtain hph | hph := (resting_iff s.phase).mp hrest <;>
    simp [Inv, InvCfg, InvCursor, InvDelay, InvShift, InvPort, InvTimer, InvStop, hph, hscan, hsh, hdone, hport,
      hbcm, hln, hon, hstop, hline, hbit, Port.safe, Phase.bcmOnly, Phase.lineOnly, Phase.resting, Phase.latchSeq,
      Phase.latched, Phase.stopping] <;>
    exact ⟨⟨hp, hc⟩, ⟨hlines, hbits⟩, hlines, ⟨hbcm, hln, hon⟩, hmem⟩

/-! ## The next state -/

/-- The state a tick leads to, by the writes of its agents. -/
def State.next (s : State) (sh c ho : Effect) : State := commit s (tickEffect s sh c ho)

section
variable (s : State) (sh c ho : Effect)

@[simp] theorem State.next_phase : (s.next sh c ho).phase = (c.phase.or ho.phase).getD s.phase := rfl

@[simp] theorem State.next_line : (s.next sh c ho).line = (c.line.or ho.line).getD s.line := rfl

@[simp] theorem State.next_bit : (s.next sh c ho).bit = (c.bit.or ho.bit).getD s.bit := rfl

@[simp] theorem State.next_scan : (s.next sh c ho).scan = (c.scan.or ho.scan).getD s.scan := rfl

@[simp] theorem State.next_xferLine : (s.next sh c ho).xferLine = c.xferLine.getD s.xferLine := rfl

@[simp] theorem State.next_rdBank : (s.next sh c ho).rdBank = c.rdBank.getD s.rdBank := rfl

@[simp] theorem State.next_dly : (s.next sh c ho).dly = c.dly.getD s.dly := rfl

@[simp] theorem State.next_stopCnt : (s.next sh c ho).stopCnt = c.stopCnt.getD s.stopCnt := rfl

@[simp] theorem State.next_stopReq : (s.next sh c ho).stopReq = (c.stopReq.or ho.stopReq).getD s.stopReq := rfl

@[simp] theorem State.next_params : (s.next sh c ho).params = s.params := rfl

@[simp] theorem State.next_inputs : (s.next sh c ho).inputs = s.inputs := rfl

@[simp] theorem State.next_cfg : (s.next sh c ho).cfg = ho.cfg.getD s.cfg := rfl

@[simp] theorem State.next_fb : (s.next sh c ho).fb = ho.fb.getD s.fb := rfl

@[simp] theorem State.next_stg : (s.next sh c ho).stg = ho.stg.getD s.stg := rfl

@[simp] theorem State.next_brightness : (s.next sh c ho).brightness = ho.brightness.getD s.brightness := rfl

@[simp] theorem State.next_irqEn : (s.next sh c ho).irqEn = ho.irqEn.getD s.irqEn := rfl

@[simp] theorem State.next_rdData : (s.next sh c ho).rdData = ho.rdData.getD s.rdData := rfl

@[simp] theorem State.next_sticky :
    (s.next sh c ho).sticky = settleSticky s.sticky (c.raised.union ho.raised) ho.cleared := rfl

@[simp] theorem State.next_cnt : (s.next sh c ho).cnt = s.cnt + 1 := rfl

@[simp] theorem State.next_tBcm :
    (s.next sh c ho).tBcm = settleChan s.cnt s.tBcm ((oneshotReq s.cnt s.tBcm).join c.tBcm) := rfl

@[simp] theorem State.next_tLine :
    (s.next sh c ho).tLine = settleChan s.cnt s.tLine ((periodicReq s).join c.tLine) := rfl

@[simp] theorem State.next_tOn :
    (s.next sh c ho).tOn = settleChan s.cnt s.tOn ((oneshotReq s.cnt s.tOn).join c.tOn) := rfl

@[simp] theorem State.next_data :
    (s.next sh c ho).port.data = c.data.getD (sh.shData.getD s.port.data) := rfl

@[simp] theorem State.next_clk : (s.next sh c ho).port.clk = c.clk.getD (sh.shClk.getD s.port.clk) := rfl

@[simp] theorem State.next_lat : (s.next sh c ho).port.lat = c.lat.getD s.port.lat := rfl

@[simp] theorem State.next_oeN : (s.next sh c ho).port.oeN = c.oeN.getD s.port.oeN := rfl

@[simp] theorem State.next_addr : (s.next sh c ho).port.addr = c.addr.getD s.port.addr := rfl

end

/-! ## A tick of a machine in `IDLE` -/

theorem CtrlMove.eq_of_idle {s : State} {c : Effect} (hc : CtrlMove s c) (hph : s.phase = .idle) : c = {} := by
  cases hc with
  | idle => rfl
  | _ => simp_all

theorem ShiftMove.eq_of_idle {inp : TickIn} {s : State} {sh : Effect} (hsh : ShiftMove inp s sh)
    (h : s.shPhase = .idle) : sh = {} := by
  cases hsh with
  | idle | stall => rfl
  | _ => simp_all

theorem oneshotReq_of_quiet {cnt : Word} {c : Channel} (h : c.arm = false) : oneshotReq cnt c = {} :=
  oneshotReq_of_no_match (by simp [chanMatches, h])

theorem periodicReq_of_quiet {s : State} (h : s.tLine.arm = false) : periodicReq s = {} :=
  periodicReq_of_no_match (by simp [chanMatches, h])

/-- What a host access does to a memory in canonical form. -/
theorem HostMove.fb_mem {inp : TickIn} {s : State} {ho : Effect} (hho : HostMove inp s ho) (hwf : s.fb.wf = true)
    (hcap : s.fb.within s.params.fbCap = true) :
    (ho.fb.getD s.fb).wf = true ∧ (ho.fb.getD s.fb).within s.params.fbCap = true := by
  cases hho with
  | fbWrite a v hop hwin =>
    obtain ⟨hlow, hhigh⟩ := hwin
    have hoff : fbOffset a < s.params.fbCap := by
      unfold fbOffset
      omega
    exact ⟨Memory.wf_write _ _ hwf, Memory.within_write _ hcap hoff⟩
  | setting he =>
    rw [← he]
    exact ⟨hwf, hcap⟩
  | start | stop | modeset => exact ⟨hwf, hcap⟩

/-- The host's writes in `IDLE` (R87, R90): a start, a legal configuration, or neither. -/
theorem HostMove.of_idle {inp : TickIn} {s : State} {ho : Effect} (hho : HostMove inp s ho)
    (hph : s.phase = .idle) (hp : s.params.Legal) (hc : s.cfg.Legal s.params) :
    ho.stopReq = none ∧ (ho.cfg.getD s.cfg).Legal s.params ∧
      (ho.phase = none ∧ ho.line = none ∧ ho.bit = none ∨
        ho.phase = some .prime ∧ ho.line = some 0 ∧ ho.bit = some 0 ∧ ho.scan = some 0) := by
  cases hho with
  | start => exact ⟨rfl, hc, .inr ⟨rfl, rfl, rfl, rfl⟩⟩
  | stop _ hrun => exact absurd hph hrun
  | modeset _ _ hfits =>
    obtain ⟨hfb, hbpb⟩ := (Cfg.fits_iff _ _).mp hfits
    exact ⟨rfl, modesetGivesLegalConfiguration _ _ hp hfb hbpb, .inl ⟨rfl, rfl, rfl⟩⟩
  | fbWrite => exact ⟨rfl, hc, .inl ⟨rfl, rfl, rfl⟩⟩
  | setting he =>
    rw [← he]
    exact ⟨rfl, hc, .inl ⟨rfl, rfl, rfl⟩⟩

theorem inv_next_of_idle {inp : TickIn} {s : State} {sh c ho : Effect} (hs : Inv s) (hph : s.phase = .idle)
    (hsh : ShiftMove inp s sh) (hc : CtrlMove s c) (hho : HostMove inp s ho) : Inv (s.next sh c ho) := by
  obtain rfl := hc.eq_of_idle hph
  have hrest : s.phase.resting = true := hph ▸ rfl
  have hport := hs.port_of_resting hrest
  obtain ⟨⟨hp, hcfg, -⟩, ⟨-, -, hcursor, -⟩, -, ⟨-, -, hidle, hdone, -⟩, -, ⟨hquiet, -⟩, hstop,
    ⟨hfb, hb0, hb1, hfbc, hb0c, hb1c⟩⟩ := hs
  obtain ⟨hline, hbit⟩ := hcursor (.inl hph)
  obtain ⟨hqb, hql, hqo⟩ := hquiet (.inl hrest)
  obtain rfl := hsh.eq_of_idle (hidle (.inl hrest))
  obtain ⟨hreq, hlegal, hstart⟩ := hho.of_idle hph hp hcfg
  obtain ⟨hfb', hfbc'⟩ := hho.fb_mem hfb hfbc
  have hnoReq : s.stopReq = false := by
    cases h : s.stopReq with
    | false => rfl
    | true => exact absurd (hrest.symm.trans (hstop h).2.1) (by decide)
  obtain ⟨hlines, -⟩ := hlegal.nLines_mem
  refine inv_of_resting ?_ hp hlegal ?_ ?_ ?_ (hidle (.inl hrest)) ?_ hport ?_ ?_ ?_ ?_
    ⟨hfb', hb0, hb1, hfbc', hb0c, hb1c⟩
  · obtain ⟨h, -⟩ | ⟨h, -⟩ := hstart <;> simp [h, hph, Phase.resting]
  · obtain ⟨-, h, -⟩ | ⟨-, h, -⟩ := hstart <;> simp [h, hline]
  · obtain ⟨-, -, h⟩ | ⟨-, -, h, -⟩ := hstart <;> simp [h, hbit]
  · obtain ⟨h, -⟩ | ⟨-, -, -, h⟩ := hstart
    · simp [h, hph]
    · intro
      rw [State.next_scan, h]
      exact hlines
  · exact hdone (.inl hrest)
  · rw [State.next_tBcm, oneshotReq_of_quiet hqb.1]
    exact hqb
  · rw [State.next_tLine, periodicReq_of_quiet hql.1]
    exact hql
  · rw [State.next_tOn, oneshotReq_of_quiet hqo.1]
    exact hqo
  · simp [hreq, hnoReq]

end Sys2Proof.Machine
end

section
/-! PROOFS. The invariant is kept by a running machine, clause by clause. -/

namespace Sys2Proof.Machine

/-! ## The clauses of the invariant, by name -/

section
variable {s : State} (hs : Inv s)
include hs

theorem Inv.params_legal : s.params.Legal := hs.1.1

theorem Inv.legal : s.cfg.Legal s.params := hs.1.2.1

theorem Inv.bcm_of_phase (h : s.phase.bcmOnly = true) : s.cfg.regime = .bcm := hs.1.2.2.1 h

theorem Inv.line_of_phase (h : s.phase.lineOnly = true) : s.cfg.regime = .line := hs.1.2.2.2 h

theorem Inv.line_lt : s.line.toNat < s.cfg.nLines := hs.2.1.1

theorem Inv.bit_lt : s.bit.toNat < s.cfg.nBits := hs.2.1.2.1

theorem Inv.cursor_zero (h : s.phase = .idle ∨ s.cfg.regime = .line) : s.line = 0 ∧ s.bit = 0 := hs.2.1.2.2.1 h

theorem Inv.scan_lt (h : s.phase ≠ .idle) : s.scan.toNat < s.cfg.nLines := hs.2.1.2.2.2.1 h

theorem Inv.xferLine_lt (hreg : s.cfg.regime = .line) (hrest : s.phase.resting = false)
    (h : s.shPhase ≠ .idle ∨ s.evDone = true ∨ s.phase.latchSeq = true) : s.xferLine.toNat < s.cfg.nLines :=
  hs.2.1.2.2.2.2 hreg hrest h

theorem Inv.dly_le (h : s.phase = .latHold ∨ s.phase = .lLatHold) : s.dly.toNat ≤ s.cfg.latchHold :=
  hs.2.2.1.1 h

theorem Inv.stopCnt_le (h : s.phase = .lStopWait) : s.stopCnt.toNat ≤ s.cfg.stopTimeout := hs.2.2.1.2 h

theorem Inv.transfer_lt (h : s.shPhase ≠ .idle) :
    s.shLine.toNat < s.cfg.nLines ∧ s.shPlane.toNat < s.cfg.nBits ∧ s.shIdx.toNat < s.cfg.rowLen :=
  hs.2.2.2.1.1 h

theorem Inv.shIdle_of_done (h : s.evDone = true) : s.shPhase = .idle := hs.2.2.2.1.2.1 h

theorem Inv.shIdle_of_phase (h : s.phase.resting = true ∨ s.phase = .lStopSafe ∨ s.phase.latchSeq = true) :
    s.shPhase = .idle := hs.2.2.2.1.2.2.1 h

theorem Inv.not_done_of_phase (h : s.phase.resting = true ∨ s.phase.latchSeq = true) : s.evDone = false :=
  hs.2.2.2.1.2.2.2.1 h

theorem Inv.bcm_shifter (hreg : s.cfg.regime = .bcm) (h : s.phase ≠ .shiftWait) :
    s.shPhase = .idle ∧ s.evDone = false := hs.2.2.2.1.2.2.2.2.1 hreg h

theorem Inv.done_of_shiftWait (h : s.phase = .shiftWait) (hsh : s.shPhase = .idle) : s.evDone = true :=
  hs.2.2.2.1.2.2.2.2.2.1 h hsh

theorem Inv.shBank_of_vsync (h : s.phase = .vsync) (hsh : s.shPhase ≠ .idle) : s.shBank = s.rdBank :=
  hs.2.2.2.1.2.2.2.2.2.2 h hsh

theorem Inv.data_zero (h : s.shPhase = .idle) : s.port.data = 0 := hs.2.2.2.2.1.2.1 h

theorem Inv.clk_iff : s.port.clk = true ↔ s.shPhase = .clklo := hs.2.2.2.2.1.2.2.1

theorem Inv.lat_iff : s.port.lat = true ↔ s.phase.latched = true := hs.2.2.2.2.1.2.2.2.1

theorem Inv.quiet (h : s.phase.resting = true ∨ s.phase.stopping = true) :
    s.tBcm.Quiet ∧ s.tLine.Quiet ∧ s.tOn.Quiet := hs.2.2.2.2.2.1.1 h

theorem Inv.bcm_timer (hrest : s.phase.resting = false) (hreg : s.cfg.regime = .bcm) :
    s.tLine.Quiet ∧ s.tOn.Quiet ∧ s.tBcm.arm = !s.tBcm.ev := hs.2.2.2.2.2.1.2.1 hrest hreg

theorem Inv.line_timer (hrest : s.phase.resting = false) (hreg : s.cfg.regime = .line) : s.tBcm.Quiet :=
  hs.2.2.2.2.2.1.2.2.1 hrest hreg

theorem Inv.line_armed (hrest : s.phase.resting = false) (hstop : s.phase.stopping = false)
    (hreg : s.cfg.regime = .line) : s.tLine.arm = true := hs.2.2.2.2.2.1.2.2.2.1 hrest hstop hreg

theorem Inv.on_timer : ¬ (s.tOn.arm = true ∧ s.tOn.ev = true) := hs.2.2.2.2.2.1.2.2.2.2

theorem Inv.stop_pending (h : s.stopReq = true) :
    s.cfg.regime = .line ∧ s.phase.resting = false ∧ s.phase.stopping = false := hs.2.2.2.2.2.2.1 h

theorem Inv.mem : InvMem s := hs.2.2.2.2.2.2.2

end

/-! ## The controller's clauses -/

section
variable {s : State} {c : Effect} (hs : Inv s) (hrun : s.phase ≠ .idle) (hc : CtrlMove s c)

/-- The phase after a tick of a running machine. -/
def Effect.phaseAfter (c : Effect) (s : State) : Phase := c.phase.getD s.phase

include hc in
/-- The phases of one regime are entered from its own, or from a frame boundary of it (30_encoding.md R68). -/
theorem CtrlMove.regime_phase :
    ((c.phaseAfter s).bcmOnly = true → s.phase.bcmOnly = true ∨ s.cfg.regime = .bcm) ∧
      ((c.phaseAfter s).lineOnly = true → s.phase.lineOnly = true ∨ s.cfg.regime = .line) := by
  cases hc with
  | lineTick_start hph =>
    refine ⟨fun h => ?_, fun _ => .inl (hph ▸ rfl)⟩
    unfold Effect.phaseAfter at h
    split at h <;> cases h
  | _ => simp [*, Effect.phaseAfter, Phase.bcmOnly, Phase.lineOnly]

include hs hc in
theorem CtrlMove.line_lt : (c.line.getD s.line).toNat < s.cfg.nLines := by
  have hlines := hs.legal.nLines_mem
  cases hc with
  | advance_line _ _ hline => 
    change (s.line + 1).toNat < _
    rw [BitVec.toNat_add]
    exact Nat.lt_of_le_of_lt (Nat.mod_le _ _) hline
  | advance_frame => exact hlines.1
  | _ => exact hs.line_lt

include hs hc in
theorem CtrlMove.bit_lt : (c.bit.getD s.bit).toNat < s.cfg.nBits := by
  have hbits := hs.legal.nBits_mem
  cases hc with
  | advance_bit _ hbit => 
    change (s.bit + 1).toNat < _
    rw [BitVec.toNat_add]
    exact Nat.lt_of_le_of_lt (Nat.mod_le _ _) hbit
  | advance_line | advance_frame => exact hbits.1
  | _ => exact hs.bit_lt

theorem ne_line_of_bcm {r : Regime} (h : r = .bcm) : r ≠ .line := by rw [h]; decide

include hs hc hrun in
/-- Only `ADVANCE` moves the cursors, and it belongs to the BCM regime. -/
theorem CtrlMove.cursor_zero (h : c.phaseAfter s = .idle ∨ s.cfg.regime = .line) :
    c.line.getD s.line = 0 ∧ c.bit.getD s.bit = 0 := by
  have hreg : s.cfg.regime = .line → s.line = 0 ∧ s.bit = 0 := fun h => hs.cursor_zero (.inr h)
  cases hc with
  | advance_bit hph | advance_line hph | advance_frame hph =>
    exact absurd (h.resolve_left nofun) (ne_line_of_bcm (hs.bcm_of_phase (hph ▸ rfl)))
  | lStopSafe hph => exact hreg (hs.line_of_phase (hph ▸ rfl))
  | idle hph => exact absurd hph hrun
  | lineTick_start hph => exact hreg (hs.line_of_phase (hph ▸ rfl))
  | lNop hph => exact hreg (hs.line_of_phase (hph ▸ rfl))
  | _ => exact hreg (h.resolve_left nofun)

include hs hc hrun in
theorem CtrlMove.scan_lt : (c.scan.getD s.scan).toNat < s.cfg.nLines := by
  have hlines := hs.legal.nLines_mem
  cases hc with
  | lineTick_start =>
    change (BitVec.ofNat 3 ((s.scan.toNat + 1) % s.cfg.nLines)).toNat < _
    rw [BitVec.toNat_ofNat]
    exact Nat.lt_of_le_of_lt (Nat.mod_le _ _) (Nat.mod_lt _ hlines.1)
  | _ => exact hs.scan_lt hrun

theorem toNat_sub_one {w : Nat} {x : BitVec w} (h : x ≠ 0) : (x - 1).toNat = x.toNat - 1 := by
  have hx : x.toNat ≠ 0 := fun h0 => h (BitVec.eq_of_toNat_eq (by simpa using h0))
  have hw : 1 < 2 ^ w := by have := x.isLt; omega
  have hone : (1 : BitVec w).toNat = 1 := Nat.mod_eq_of_lt hw
  rw [BitVec.toNat_sub_of_le, hone]
  rw [BitVec.le_def, hone]
  omega

include hs hrun hc in
/-- R136, R160: the delay is loaded with the latch hold and counts down. -/
theorem CtrlMove.dly_le (h : c.phaseAfter s = .latHold ∨ c.phaseAfter s = .lLatHold) :
    (c.dly.getD s.dly).toNat ≤ s.cfg.latchHold := by
  cases hc with
  | latOn | lLatOn =>
    change (BitVec.ofNat 16 s.cfg.latchHold).toNat ≤ _
    rw [BitVec.toNat_ofNat]
    exact Nat.mod_le _ _
  | latHold_more hph hdly =>
    have hle := hs.dly_le (.inl hph)
    change (s.dly - 1).toNat ≤ _
    rw [toNat_sub_one hdly]
    omega
  | lLatHold_more hph hdly =>
    have hle := hs.dly_le (.inr hph)
    change (s.dly - 1).toNat ≤ _
    rw [toNat_sub_one hdly]
    omega
  | idle hph => exact absurd hph hrun
  | lNop hph => simp [Effect.phaseAfter, hph] at h
  | lineTick_start hph =>
    unfold Effect.phaseAfter at h
    split at h <;> obtain h | h := h <;> cases h
  | _ => obtain h | h := h <;> cases h

include hs hrun hc in
/-- R164: the stop count is loaded with the timeout and counts down. -/
theorem CtrlMove.stopCnt_le (h : c.phaseAfter s = .lStopWait) :
    (c.stopCnt.getD s.stopCnt).toNat ≤ s.cfg.stopTimeout := by
  cases hc with
  | lStopReq =>
    change (BitVec.ofNat 32 s.cfg.stopTimeout).toNat ≤ _
    rw [BitVec.toNat_ofNat]
    exact Nat.mod_le _ _
  | lStopWait_more hph _ hcnt =>
    have hle := hs.stopCnt_le hph
    change (s.stopCnt - 1).toNat ≤ _
    rw [toNat_sub_one hcnt]
    omega
  | idle hph => exact absurd hph hrun
  | lNop hph => simp [Effect.phaseAfter, hph] at h
  | lineTick_start hph =>
    unfold Effect.phaseAfter at h
    split at h <;> cases h
  | _ => cases h

end

/-! ## What the controller asks of the shifter -/

/-- The controller leaves the shifter to itself. -/
structure Effect.LeavesShifter (c : Effect) : Prop where
  shAbort : c.shAbort = false
  shStart : c.shStart = none

/-- A stop timeout: the shifter aborted, its wires cleared (R164). -/
structure Effect.AbortsShifter (s : State) (c : Effect) : Prop where
  shAbort : c.shAbort = true
  phase : s.phase = .lStopWait
  next : c.phase = some .lStopSafe
  data : c.data = some 0
  clk : c.clk = some false

/-- A transfer of a row of the bank being read started, the shifter being idle (R133, R156). -/
structure Effect.StartsShifter (s : State) (c : Effect) (line plane : Index3) : Prop where
  shAbort : c.shAbort = false
  shStart : c.shStart = some (s.rdBank, line, plane)
  line_lt : line.toNat < s.cfg.nLines
  plane_lt : plane.toNat < s.cfg.nBits
  shIdle : s.shPhase = .idle
  notDone : s.evDone = false
  next : c.phase = some .shiftWait ∧ s.cfg.regime = .bcm ∨
    (c.phase = some .lIdle ∨ c.phase = some .vsync) ∧ s.cfg.regime = .line ∧ c.xferLine = some line
  data : c.data = none
  clk : c.clk = none
  rdBank : c.rdBank = none

theorem CtrlMove.shifter_cases {s : State} {c : Effect} (hs : Inv s) (hc : CtrlMove s c) :
    c.LeavesShifter ∨ c.AbortsShifter s ∨ ∃ line plane, c.StartsShifter s line plane := by
  cases hc with
  | shiftGo hph =>
    have hreg := hs.bcm_of_phase (hph ▸ rfl)
    obtain ⟨hsh, hdone⟩ := hs.bcm_shifter hreg (hph ▸ by decide)
    exact .inr (.inr ⟨s.line, s.bit, rfl, rfl, hs.line_lt, hs.bit_lt, hsh, hdone, .inl ⟨rfl, hreg⟩, rfl, rfl, rfl⟩)
  | lineTick_start hph _ hdone _ _ hsh =>
    have hreg := hs.line_of_phase (hph ▸ rfl)
    refine .inr (.inr ⟨s.scan, 0, rfl, rfl, hs.scan_lt (hph ▸ by decide), hs.legal.nBits_mem.1, hsh, hdone,
      .inr ⟨?_, hreg, rfl⟩, rfl, rfl, rfl⟩)
    split
    · exact .inr rfl
    · exact .inl rfl
  | lStopWait_timeout hph => exact .inr (.inl ⟨rfl, hph, rfl, rfl, rfl⟩)
  | _ => exact .inl ⟨rfl, rfl⟩

section
variable {s : State} {c : Effect} (sh ho : Effect)

theorem Effect.LeavesShifter.next_shPhase (h : c.LeavesShifter) :
    (s.next sh c ho).shPhase = sh.shPhase.getD s.shPhase := by
  change settleShPhase s.shPhase (tickEffect s sh c ho) = _
  simp [settleShPhase, tickEffect, h.shAbort, h.shStart]

theorem Effect.LeavesShifter.next_shIdx (h : c.LeavesShifter) :
    (s.next sh c ho).shIdx = sh.shIdx.getD s.shIdx := by
  change settleShIdx s.shIdx (tickEffect s sh c ho) = _
  simp [settleShIdx, tickEffect, h.shAbort, h.shStart]

theorem Effect.LeavesShifter.next_shBit (h : c.LeavesShifter) :
    (s.next sh c ho).shBit = sh.shBit.getD s.shBit := by
  change settleShBit s.shBit (tickEffect s sh c ho) = _
  simp [settleShBit, tickEffect, h.shAbort, h.shStart]

theorem Effect.LeavesShifter.next_evDone (h : c.LeavesShifter) :
    (s.next sh c ho).evDone = (sh.doneSet || (s.evDone && !c.doneClear)) := by
  change settleDone s.evDone (tickEffect s sh c ho) = _
  simp [settleDone, tickEffect, h.shAbort, h.shStart]

theorem Effect.LeavesShifter.next_row (h : c.LeavesShifter) :
    (s.next sh c ho).shBank = s.shBank ∧ (s.next sh c ho).shLine = s.shLine ∧
      (s.next sh c ho).shPlane = s.shPlane := by
  change (c.shStart.map _).getD _ = _ ∧ (c.shStart.map _).getD _ = _ ∧ (c.shStart.map _).getD _ = _
  simp [h.shStart]

theorem Effect.AbortsShifter.next_shPhase (h : c.AbortsShifter s) : (s.next sh c ho).shPhase = .idle := by
  change settleShPhase s.shPhase (tickEffect s sh c ho) = _
  simp [settleShPhase, tickEffect, h.shAbort]

theorem Effect.AbortsShifter.next_evDone (h : c.AbortsShifter s) : (s.next sh c ho).evDone = false := by
  change settleDone s.evDone (tickEffect s sh c ho) = _
  simp [settleDone, tickEffect, h.shAbort]

variable {line plane : Index3}

theorem Effect.StartsShifter.next_shPhase (h : c.StartsShifter s line plane) :
    (s.next sh c ho).shPhase = .data := by
  change settleShPhase s.shPhase (tickEffect s sh c ho) = _
  simp [settleShPhase, tickEffect, h.shAbort, h.shStart]

theorem Effect.StartsShifter.next_shIdx (h : c.StartsShifter s line plane) : (s.next sh c ho).shIdx = 0 := by
  change settleShIdx s.shIdx (tickEffect s sh c ho) = _
  simp [settleShIdx, tickEffect, h.shAbort, h.shStart]

theorem Effect.StartsShifter.next_shBit (h : c.StartsShifter s line plane) : (s.next sh c ho).shBit = 7 := by
  change settleShBit s.shBit (tickEffect s sh c ho) = _
  simp [settleShBit, tickEffect, h.shAbort, h.shStart]

theorem Effect.StartsShifter.next_evDone (h : c.StartsShifter s line plane) :
    (s.next sh c ho).evDone = false := by
  change settleDone s.evDone (tickEffect s sh c ho) = _
  simp [settleDone, tickEffect, h.shAbort, h.shStart]

theorem Effect.StartsShifter.next_row (h : c.StartsShifter s line plane) :
    (s.next sh c ho).shBank = s.rdBank ∧ (s.next sh c ho).shLine = line ∧ (s.next sh c ho).shPlane = plane := by
  change (c.shStart.map _).getD _ = _ ∧ (c.shStart.map _).getD _ = _ ∧ (c.shStart.map _).getD _ = _
  simp [h.shStart]

end

/-! ## The shifter's own step -/

section
variable {inp : TickIn} {s : State} {sh : Effect} (hsh : ShiftMove inp s sh)
include hsh

theorem ShiftMove.busy_before (h : sh.shPhase.getD s.shPhase ≠ .idle) : s.shPhase ≠ .idle := by
  intro hidle
  obtain rfl := hsh.eq_of_idle hidle
  exact h hidle

theorem ShiftMove.busy_of_doneSet (h : sh.doneSet = true) : s.shPhase = .exit ∧ sh.shPhase = some .idle := by
  cases hsh with
  | exit _ hph => exact ⟨hph, rfl⟩
  | _ => cases h

theorem ShiftMove.doneSet_of_ends (hbusy : s.shPhase ≠ .idle) (h : sh.shPhase.getD s.shPhase = .idle) :
    sh.doneSet = true := by
  cases hsh with
  | exit => rfl
  | idle hidle => exact absurd hidle hbusy
  | stall => exact absurd h hbusy
  | _ => cases h

theorem ShiftMove.idx_lt (h : s.shIdx.toNat < s.cfg.rowLen) : (sh.shIdx.getD s.shIdx).toNat < s.cfg.rowLen := by
  cases hsh with
  | clklo_byte _ _ _ hidx =>
    change (s.shIdx + 1).toNat < _
    rw [BitVec.toNat_add]
    exact Nat.lt_of_le_of_lt (Nat.mod_le _ _) hidx
  | _ => exact h

/-- R110, R115: an idle shifter leaves the data wires at 0. -/
theorem ShiftMove.data_zero (hzero : s.shPhase = .idle → s.port.data = 0)
    (h : sh.shPhase.getD s.shPhase = .idle) : sh.shData.getD s.port.data = 0 := by
  cases hsh with
  | exit => rfl
  | idle | stall => exact hzero h
  | _ => cases h

/-- R113, R114: the clock is high before `SH_CLKLO` alone. -/
theorem ShiftMove.clk_iff (hclk : s.port.clk = true ↔ s.shPhase = .clklo) :
    sh.shClk.getD s.port.clk = true ↔ sh.shPhase.getD s.shPhase = .clklo := by
  cases hsh with
  | idle | stall => exact hclk
  | data _ hph =>
    refine iff_of_false (fun h => ?_) nofun
    exact absurd (hph.symm.trans (hclk.mp h)) (by decide)
  | clkhi => exact iff_of_true rfl rfl
  | _ => exact iff_of_false nofun nofun

end

/-! ## The groups of the invariant -/

section
variable {inp : TickIn} {s : State} {sh c ho : Effect} (hs : Inv s) (hrun : s.phase ≠ .idle)
  (hsh : ShiftMove inp s sh) (hc : CtrlMove s c) (hho : HostMove inp s ho)

include hrun hho

theorem next_phase_of_running : (s.next sh c ho).phase = c.phaseAfter s := by
  rw [State.next_phase, (hho.of_running hrun).1, Option.or_none]
  rfl

theorem next_cfg_of_running : (s.next sh c ho).cfg = s.cfg := by
  rw [State.next_cfg, (hho.of_running hrun).2.2.2.2]
  rfl

theorem next_line_of_running : (s.next sh c ho).line = c.line.getD s.line := by
  rw [State.next_line, (hho.of_running hrun).2.1, Option.or_none]

theorem next_bit_of_running : (s.next sh c ho).bit = c.bit.getD s.bit := by
  rw [State.next_bit, (hho.of_running hrun).2.2.1, Option.or_none]

theorem next_scan_of_running : (s.next sh c ho).scan = c.scan.getD s.scan := by
  rw [State.next_scan, (hho.of_running hrun).2.2.2.1, Option.or_none]

include hs hc in
theorem invCfg_next : InvCfg (s.next sh c ho) := by
  obtain ⟨hbcm, hline⟩ := hc.regime_phase
  rw [InvCfg, next_phase_of_running hrun hho, next_cfg_of_running hrun hho, State.next_params]
  exact ⟨hs.params_legal, hs.legal, fun h => (hbcm h).elim hs.bcm_of_phase id,
    fun h => (hline h).elim hs.line_of_phase id⟩

omit hrun hho in
/-- A latch sequence is entered with a completed transfer. -/
theorem CtrlMove.latchSeq_after (hc : CtrlMove s c) (h : (c.phaseAfter s).latchSeq = true) :
    s.phase.latchSeq = true ∨ s.phase = .lIdle ∧ s.evDone = true ∧ c.doneClear = true := by
  cases hc with
  | lDone hph _ hdone => exact .inr ⟨hph, hdone, rfl⟩
  | idle | lNop => exact .inl h
  | lineTick_start =>
    unfold Effect.phaseAfter at h
    split at h <;> cases h
  | lBlank hph | lLatOn hph | lLatHold_end hph | lLatHold_more hph | lLatOff hph | lSetLine hph =>
    exact .inl (hph ▸ rfl)
  | _ => cases h

omit hho in
/-- A running machine comes to rest by `L_STOP_SAFE` alone (R148, R165). -/
theorem CtrlMove.resting_after (hc : CtrlMove s c) (h : (c.phaseAfter s).resting = true) :
    s.phase = .lStopSafe ∧ c.doneClear = true := by
  cases hc with
  | lStopSafe hph => exact ⟨hph, rfl⟩
  | idle hph => exact absurd hph hrun
  | lNop hph => simp [Effect.phaseAfter, hph, Phase.resting] at h
  | lineTick_start =>
    unfold Effect.phaseAfter at h
    split at h <;> cases h
  | _ => cases h

omit hho in
include hs in
/-- What keeps `xfer_line` a row of the display: it was one, or this tick starts its transfer. -/
theorem CtrlMove.xferLine_lt (hc : CtrlMove s c) (hreg : s.cfg.regime = .line)
    (h : (∃ line plane, c.StartsShifter s line plane) ∨ s.phase.resting = false ∧
      (s.shPhase ≠ .idle ∨ s.evDone = true ∨ s.phase.latchSeq = true)) :
    (c.xferLine.getD s.xferLine).toNat < s.cfg.nLines := by
  cases hc with
  | lineTick_start => exact hs.scan_lt hrun
  | shiftGo hph => exact absurd hreg (ne_line_of_bcm (hs.bcm_of_phase (hph ▸ rfl)))
  | _ =>
    obtain ⟨_, _, hstart⟩ | ⟨hrest, hbusy⟩ := h
    · exact absurd hstart.shStart nofun
    · exact hs.xferLine_lt hreg hrest hbusy

include hs hsh hc in
theorem invCursor_next : InvCursor (s.next sh c ho) := by
  rw [InvCursor, next_phase_of_running hrun hho, next_cfg_of_running hrun hho, next_line_of_running hrun hho,
    next_bit_of_running hrun hho, next_scan_of_running hrun hho, State.next_xferLine]
  refine ⟨hc.line_lt hs, hc.bit_lt hs, hc.cursor_zero hs hrun, fun _ => hc.scan_lt hs hrun, fun hreg _ h => ?_⟩
  refine hc.xferLine_lt hs hrun hreg ?_
  obtain hleave | habort | hstart := hc.shifter_cases hs
  · rw [hleave.next_shPhase, hleave.next_evDone] at h
    have hbusy : s.shPhase ≠ .idle ∨ s.evDone = true ∨ s.phase.latchSeq = true := by
      obtain h | h | h := h
      · exact .inl (hsh.busy_before h)
      · obtain h | h := Bool.or_eq_true_iff.mp h
        · exact .inl ((hsh.busy_of_doneSet h).1 ▸ nofun)
        · exact .inr (.inl (Bool.and_eq_true_iff.mp h).1)
      · obtain h | ⟨-, h, -⟩ := hc.latchSeq_after h
        · exact .inr (.inr h)
        · exact .inr (.inl h)
    refine .inr ⟨?_, hbusy⟩
    rw [← Bool.not_eq_true]
    intro hrest
    obtain hsh' | hdone | hseq := hbusy
    · exact hsh' (hs.shIdle_of_phase (.inl hrest))
    · exact absurd (hdone.symm.trans (hs.not_done_of_phase (.inl hrest))) (by decide)
    · obtain hph | hph := (resting_iff _).mp hrest <;> rw [hph] at hseq <;> cases hseq
  · rw [habort.next_shPhase, habort.next_evDone] at h
    obtain h | h | h := h
    · exact absurd rfl h
    · cases h
    · rw [Effect.phaseAfter, habort.next] at h
      cases h
  · exact .inl hstart

include hs hc in
theorem invDelay_next : InvDelay (s.next sh c ho) := by
  rw [InvDelay, next_phase_of_running hrun hho, next_cfg_of_running hrun hho, State.next_dly, State.next_stopCnt]
  exact ⟨hc.dly_le hs hrun, hc.stopCnt_le hs hrun⟩

omit hho in
/-- `L_STOP_SAFE` is entered with the shifter idle or aborted (R164). -/
theorem CtrlMove.stopSafe_after (hc : CtrlMove s c) (h : c.phaseAfter s = .lStopSafe) :
    s.phase = .lStopWait ∧ (s.shPhase = .idle ∨ c.AbortsShifter s) := by
  cases hc with
  | lStopWait_idle hph hidle => exact ⟨hph, .inl hidle⟩
  | lStopWait_timeout hph => exact ⟨hph, .inr ⟨rfl, hph, rfl, rfl, rfl⟩⟩
  | idle hph => exact absurd hph hrun
  | lNop hph => simp [Effect.phaseAfter, hph] at h
  | lineTick_start =>
    unfold Effect.phaseAfter at h
    split at h <;> cases h
  | _ => cases h

omit hho in
include hs in
/-- Before the phases in which the shifter rests it is idle already, if it is not aborted. -/
theorem CtrlMove.shIdle_before (hc : CtrlMove s c) (hleave : c.LeavesShifter)
    (h : (c.phaseAfter s).resting = true ∨ c.phaseAfter s = .lStopSafe ∨ (c.phaseAfter s).latchSeq = true) :
    s.shPhase = .idle := by
  obtain h | h | h := h
  · exact hs.shIdle_of_phase (.inr (.inl (hc.resting_after hrun h).1))
  · obtain h | h := (hc.stopSafe_after hrun h).2
    · exact h
    · exact absurd (hleave.shAbort.symm.trans h.shAbort) (by decide)
  · obtain h | ⟨-, hdone, -⟩ := hc.latchSeq_after h
    · exact hs.shIdle_of_phase (.inr (.inr h))
    · exact hs.shIdle_of_done hdone

omit hho in
include hs in
/-- No completion is pending before the phases in which none may be, or it is consumed. -/
theorem CtrlMove.done_consumed (hc : CtrlMove s c)
    (h : (c.phaseAfter s).resting = true ∨ (c.phaseAfter s).latchSeq = true) :
    s.evDone = false ∨ c.doneClear = true := by
  obtain h | h := h
  · exact .inr (hc.resting_after hrun h).2
  · obtain h | ⟨-, -, h⟩ := hc.latchSeq_after h
    · exact .inl (hs.not_done_of_phase (.inr h))
    · exact .inr h

omit hrun hho in
include hs hsh in
/-- In the BCM regime a transfer ends before `SHIFT_WAIT` does (R134). -/
theorem CtrlMove.bcm_shifter (hc : CtrlMove s c) (hleave : c.LeavesShifter) (hreg : s.cfg.regime = .bcm)
    (h : c.phaseAfter s ≠ .shiftWait) :
    sh.shPhase.getD s.shPhase = .idle ∧ (sh.doneSet || (s.evDone && !c.doneClear)) = false := by
  have hquiet : s.phase ≠ .shiftWait →
      sh.shPhase.getD s.shPhase = .idle ∧ (sh.doneSet || (s.evDone && !c.doneClear)) = false := by
    intro hph
    obtain ⟨hidle, hdone⟩ := hs.bcm_shifter hreg hph
    obtain rfl := hsh.eq_of_idle hidle
    exact ⟨hidle, by simp [hdone]⟩
  cases hc with
  | shiftWait_done hph hdone =>
    have hidle := hs.shIdle_of_done hdone
    obtain rfl := hsh.eq_of_idle hidle
    exact ⟨hidle, by simp⟩
  | shiftWait_wait => exact absurd rfl h
  | _ => exact hquiet (by simp_all)

omit hho in
/-- `SHIFT_WAIT` is entered by starting a transfer and kept while it runs (R133, R134). -/
theorem CtrlMove.shiftWait_after (hc : CtrlMove s c) (hleave : c.LeavesShifter)
    (h : c.phaseAfter s = .shiftWait) : s.phase = .shiftWait ∧ s.evDone = false := by
  cases hc with
  | shiftWait_wait hph hdone => exact ⟨hph, hdone⟩
  | shiftGo => exact absurd hleave.shStart nofun
  | idle hph => exact absurd hph hrun
  | lNop hph => simp [Effect.phaseAfter, hph] at h
  | lineTick_start =>
    unfold Effect.phaseAfter at h
    split at h <;> cases h
  | _ => cases h

omit hho in
/-- `VSYNC` is entered after the last plane of a frame, or by the transfer of its last line (R143, R156). -/
theorem CtrlMove.vsync_after (hc : CtrlMove s c) (hleave : c.LeavesShifter) (h : c.phaseAfter s = .vsync) :
    s.phase = .advance := by
  cases hc with
  | advance_frame hph => exact hph
  | lineTick_start => exact absurd hleave.shStart nofun
  | idle hph => exact absurd hph hrun
  | lNop hph => simp [Effect.phaseAfter, hph] at h
  | _ => cases h

include hs hsh hc in
theorem invShift_next_of_leaves (hleave : c.LeavesShifter) : InvShift (s.next sh c ho) := by
  obtain ⟨hbank, hline, hplane⟩ := hleave.next_row (s := s) sh ho
  have hends : s.shPhase = .idle → sh.shPhase.getD s.shPhase = .idle := by
    intro hidle
    obtain rfl := hsh.eq_of_idle hidle
    exact hidle
  rw [InvShift, next_phase_of_running hrun hho, next_cfg_of_running hrun hho, hleave.next_shPhase,
    hleave.next_shIdx, hleave.next_evDone, hbank, hline, hplane, State.next_rdBank]
  refine ⟨fun h => ?_, fun h => ?_, fun h => hends (hc.shIdle_before hs hrun hleave h), fun h => ?_,
    hc.bcm_shifter hs hsh hleave, fun h hidle => ?_, fun h hbusy => ?_⟩
  · obtain ⟨h1, h2, h3⟩ := hs.transfer_lt (hsh.busy_before h)
    exact ⟨h1, h2, hsh.idx_lt h3⟩
  · obtain h | h := Bool.or_eq_true_iff.mp h
    · rw [(hsh.busy_of_doneSet h).2]
      rfl
    · exact hends (hs.shIdle_of_done (Bool.and_eq_true_iff.mp h).1)
  · have hset : sh.doneSet = false := by
      obtain rfl := hsh.eq_of_idle (hc.shIdle_before hs hrun hleave (h.imp_right .inr))
      rfl
    obtain h | h := hc.done_consumed hs hrun h <;> simp [h, hset]
  · obtain ⟨hph, hdone⟩ := hc.shiftWait_after hrun hleave h
    have hbusy : s.shPhase ≠ .idle := fun hsh' =>
      absurd (hdone.symm.trans (hs.done_of_shiftWait hph hsh')) (by decide)
    rw [hsh.doneSet_of_ends hbusy hidle, Bool.true_or]
  · have hph := hc.vsync_after hrun hleave h
    exact absurd (hs.bcm_shifter (hs.bcm_of_phase (hph ▸ rfl)) (hph ▸ by decide)).1 (hsh.busy_before hbusy)

include hs hsh hc in
theorem invShift_next : InvShift (s.next sh c ho) := by
  obtain hleave | habort | ⟨line, plane, hstart⟩ := hc.shifter_cases hs
  · exact invShift_next_of_leaves hs hrun hsh hc hho hleave
  · rw [InvShift, next_phase_of_running hrun hho, next_cfg_of_running hrun hho, habort.next_shPhase,
      habort.next_evDone, Effect.phaseAfter, habort.next]
    exact ⟨fun h => absurd rfl h, nofun, fun _ => rfl, fun _ => rfl, fun _ _ => ⟨rfl, rfl⟩, nofun, nofun⟩
  · obtain ⟨hbank, hline, hplane⟩ := hstart.next_row (s := s) sh ho
    obtain ⟨-, -, -, -, -, ⟨-, -, hrow, -⟩, -⟩ := hs.legal
    rw [InvShift, next_phase_of_running hrun hho, next_cfg_of_running hrun hho, hstart.next_shPhase,
      hstart.next_evDone, hstart.next_shIdx, hbank, hline, hplane, State.next_rdBank, hstart.rdBank,
      Effect.phaseAfter]
    obtain ⟨h, hreg⟩ | ⟨h | h, hreg, -⟩ := hstart.next <;> rw [h] <;>
      simp [hreg, Phase.resting, Phase.latchSeq, hstart.line_lt, hstart.plane_lt] <;> exact hrow

omit hho in
/-- R205: a running machine comes to rest with the port in its safe state. -/
theorem CtrlMove.port_safe (hc : CtrlMove s c) (h : (c.phaseAfter s).resting = true) :
    (s.next sh c ho).port = Port.safe := by
  cases hc with
  | lStopSafe => rfl
  | idle hph => exact absurd hph hrun
  | lNop hph => simp [Effect.phaseAfter, hph, Phase.resting] at h
  | lineTick_start =>
    unfold Effect.phaseAfter at h
    split at h <;> cases h
  | _ => cases h

omit hrun hho in
/-- The controller writes the data and clock wires only to clear them (R116, R165). -/
theorem CtrlMove.wires (hc : CtrlMove s c) :
    c.data = none ∧ c.clk = none ∨
      c.data = some 0 ∧ c.clk = some false ∧ (s.phase = .lStopSafe ∨ c.AbortsShifter s) := by
  cases hc with
  | lStopSafe hph => exact .inr ⟨rfl, rfl, .inl hph⟩
  | lStopWait_timeout hph => exact .inr ⟨rfl, rfl, .inr ⟨rfl, hph, rfl, rfl, rfl⟩⟩
  | _ => exact .inl ⟨rfl, rfl⟩

omit hrun hho in
include hs in
/-- R206: `LAT` is 1 exactly in the phases between its rise and its fall. -/
theorem CtrlMove.lat_iff (hc : CtrlMove s c) :
    c.lat.getD s.port.lat = true ↔ (c.phaseAfter s).latched = true := by
  have hlat := hs.lat_iff
  cases hc with
  | lineTick_start hph =>
    rw [hph] at hlat
    unfold Effect.phaseAfter
    split <;> exact hlat
  | latOff | lLatOff | lStopSafe => exact iff_of_false nofun nofun
  | latOn | lLatOn => exact iff_of_true rfl rfl
  | idle | lNop => exact hlat
  | _ => exact hlat.trans (by simp only [*, Effect.phaseAfter]; rfl)

omit hrun hho in
include hs in
/-- R145, R166: the dark phases are entered blank. -/
theorem CtrlMove.oeN_of_dark (hc : CtrlMove s c) (h : (c.phaseAfter s).dark = true) :
    c.oeN.getD s.port.oeN = true := by
  have hdark := hs.oeN_of_dark
  cases hc with
  | blank | lBlank | lStopReq | onExpire | lStopSafe => rfl
  | lineTick_start hph =>
    unfold Effect.phaseAfter at h
    split at h <;> cases h
  | idle | lNop => exact hdark h
  | unblank | lUnblank_lit | waitBit_event | waitBit_wait | advance_bit | advance_line | advance_frame
  | vsync_bcm | vsync_line | prime_bcm | prime_line | lDone | lineTick_skip | lUnblank_dark => cases h
  | _ => exact hdark (by simp only [*]; rfl)

omit hrun hho in
include hs in
/-- R210. -/
theorem CtrlMove.addr_lt (hc : CtrlMove s c) : (c.addr.getD s.port.addr).toNat < s.cfg.nLines := by
  cases hc with
  | setLine => exact hs.line_lt
  | lSetLine hph =>
    exact hs.xferLine_lt (hs.line_of_phase (hph ▸ rfl)) (hph ▸ rfl) (.inr (.inr (hph ▸ rfl)))
  | lStopSafe => exact hs.legal.nLines_mem.1
  | _ => exact hs.addr_lt

omit hrun hho in
include hs hsh in
/-- R110, R113, R115, R116: the wires of an idle shifter are low, and the clock is high in `SH_CLKLO` alone. -/
theorem wires_next (hc : CtrlMove s c) :
    ((s.next sh c ho).shPhase = .idle → (s.next sh c ho).port.data = 0) ∧
      ((s.next sh c ho).port.clk = true ↔ (s.next sh c ho).shPhase = .clklo) := by
  rw [State.next_data, State.next_clk]
  obtain hleave | habort | ⟨line, plane, hstart⟩ := hc.shifter_cases hs
  · rw [hleave.next_shPhase]
    obtain ⟨hd, hk⟩ | ⟨hd, hk, hsafe⟩ := hc.wires <;> rw [hd, hk]
    · exact ⟨hsh.data_zero hs.data_zero, hsh.clk_iff hs.clk_iff⟩
    · obtain hph | habort := hsafe
      · have hidle := hs.shIdle_of_phase (.inr (.inl hph))
        obtain rfl := hsh.eq_of_idle hidle
        exact ⟨fun _ => rfl, iff_of_false nofun (hidle ▸ nofun)⟩
      · exact absurd (hleave.shAbort.symm.trans habort.shAbort) (by decide)
  · rw [habort.next_shPhase, habort.data, habort.clk]
    exact ⟨fun _ => rfl, iff_of_false nofun nofun⟩
  · obtain rfl := hsh.eq_of_idle hstart.shIdle
    rw [hstart.next_shPhase, hstart.data, hstart.clk]
    refine ⟨nofun, iff_of_false (fun h => ?_) nofun⟩
    exact absurd (hstart.shIdle.symm.trans (hs.clk_iff.mp h)) (by decide)

include hs hsh hc in
theorem invPort_next : InvPort (s.next sh c ho) := by
  obtain ⟨hdata, hclk⟩ := wires_next (ho := ho) hs hsh hc
  rw [InvPort, next_phase_of_running hrun hho, next_cfg_of_running hrun hho, State.next_lat, State.next_oeN,
    State.next_addr]
  exact ⟨hc.port_safe hrun, hdata, hclk, hc.lat_iff hs, hc.oeN_of_dark hs, hc.addr_lt hs⟩

end

/-! ## The channels -/

/-- A channel that nothing is asked of keeps its compare value, and its event where it does not match. -/
theorem settleChan_oneshot (cnt : Word) (ch : Channel) :
    settleChan cnt ch (oneshotReq cnt ch) =
      if chanMatches cnt ch = true then { ch with arm := false, ev := true } else ch := by
  cases h : chanMatches cnt ch with
  | true => rw [oneshotReq_of_match h]; rfl
  | false => rw [oneshotReq_of_no_match h]; rfl

theorem settleChan_of_quiet (cnt : Word) {ch : Channel} (h : ch.Quiet) :
    settleChan cnt ch ((oneshotReq cnt ch).join {}) = ch := by
  rw [oneshotReq_of_quiet h.1]
  rfl

theorem settleChan_periodic_of_quiet {s : State} (h : s.tLine.Quiet) :
    settleChan s.cnt s.tLine ((periodicReq s).join {}) = s.tLine := by
  rw [periodicReq_of_quiet h.1]
  rfl

theorem periodicReq_start (s : State) : (periodicReq s).start = none := by
  cases h : chanMatches s.cnt s.tLine with
  | true => rw [periodicReq_of_match h]
  | false => rw [periodicReq_of_no_match h]

/-- `START_TIMER` decides, whatever the timer's own request (R173). -/
theorem settleChan_join_start (cnt d : Word) (ch : Channel) {r : ChanReq} (hr : r.start = none) :
    settleChan cnt ch (r.join { start := some d }) = Channel.started cnt d := by
  simp [settleChan, ChanReq.join, hr, Channel.started]

/-- `DISARM` decides over a match (R174). -/
theorem settleChan_join_disarm (cnt : Word) (ch : Channel) {r : ChanReq} (hr : r.start = none) :
    (settleChan cnt ch (r.join { disarm := true })).Quiet := by
  simp [settleChan, ChanReq.join, hr]

/-- R173: a started channel is armed or has fired, and not both. -/
theorem Channel.started_arm (cnt d : Word) : (Channel.started cnt d).arm = !(Channel.started cnt d).ev := by
  simp only [Channel.started]
  by_cases h : 2 ≤ d.toNat
  · simp [h, show ¬ d.toNat ≤ 1 by omega]
  · simp [h, show d.toNat ≤ 1 by omega]

section
variable {s : State} {c : Effect} (hs : Inv s) (hc : CtrlMove s c)
include hc

include hs in
/-- The BCM channel is started in the BCM regime alone, and nothing else is asked of it (R139, R141, R151). -/
theorem CtrlMove.tBcm_cases : c.tBcm = {} ∨ s.cfg.regime = .bcm ∧ ∃ d, c.tBcm = { start := some d } := by
  cases hc with
  | startDim hph | startBit hph => exact .inr ⟨hs.bcm_of_phase (hph ▸ rfl), _, rfl⟩
  | prime_bcm _ _ hreg => exact .inr ⟨hreg, _, rfl⟩
  | _ => exact .inl rfl

include hs in
/-- The LINE channels belong to the LINE regime (R151, R154 to R159). -/
theorem CtrlMove.line_channels_of_bcm (hreg : s.cfg.regime = .bcm) : c.tLine = {} ∧ c.tOn = {} := by
  have hline : ∀ ph, s.phase = ph → ph.lineOnly = true → False := fun ph hph hl =>
    ne_line_of_bcm hreg (hs.line_of_phase (hph ▸ hl))
  cases hc with
  | prime_line _ _ hline => exact absurd hline (ne_line_of_bcm hreg)
  | lStopReq hph | onExpire hph | lineTick_start hph | lineTick_skip hph | lLatOn hph | lUnblank_dark hph =>
    exact (hline _ hph rfl).elim
  | _ => exact ⟨rfl, rfl⟩

/-- What the controller asks of the periodic channel: its first start, the silence of a stop, the consumption of a
period, or nothing. -/
theorem CtrlMove.tLine_cases :
    c.tLine = {} ∨ c.tLine = { clear := true } ∨
      c.tLine = { start := some (duration s.cfg.linePeriod) } ∨
      c.tLine = { disarm := true } ∧ (c.phaseAfter s).stopping = true := by
  cases hc with
  | prime_line => exact .inr (.inr (.inl rfl))
  | lineTick_start | lineTick_skip => exact .inr (.inl rfl)
  | lStopReq => exact .inr (.inr (.inr ⟨rfl, rfl⟩))
  | _ => exact .inl rfl

theorem CtrlMove.tOn_cases :
    c.tOn = {} ∨ c.tOn = { clear := true } ∨ (∃ d, c.tOn = { start := some d }) ∨ c.tOn = { disarm := true } := by
  cases hc with
  | lLatOn => exact .inr (.inr (.inl ⟨_, rfl⟩))
  | onExpire | lUnblank_dark => exact .inr (.inl rfl)
  | lStopReq => exact .inr (.inr (.inr rfl))
  | _ => exact .inl rfl

/-- A running machine enters rest or the stop sequence from the stop sequence, or by `L_STOP_REQ`. -/
theorem CtrlMove.quiet_after (hrun : s.phase ≠ .idle)
    (h : (c.phaseAfter s).resting = true ∨ (c.phaseAfter s).stopping = true) :
    s.phase.stopping = true ∧ c.tBcm = {} ∧ c.tLine = {} ∧ c.tOn = {} ∨
      s.phase = .lIdle ∧ c.tBcm = {} ∧ c.tLine = { disarm := true } ∧ c.tOn = { disarm := true } := by
  cases hc with
  | lStopWait_idle hph | lStopWait_timeout hph | lStopWait_more hph | lStopSafe hph =>
    exact .inl ⟨hph ▸ rfl, rfl, rfl, rfl⟩
  | lStopReq hph => exact .inr ⟨hph, rfl, rfl, rfl⟩
  | idle hph => exact absurd hph hrun
  | lNop hph => simp [Effect.phaseAfter, hph, Phase.resting, Phase.stopping] at h
  | lineTick_start =>
    unfold Effect.phaseAfter at h
    split at h <;> obtain h | h := h <;> cases h
  | _ => obtain h | h := h <;> cases h

end

section
variable {s : State} {sh c ho : Effect} (hs : Inv s) (hrun : s.phase ≠ .idle) (hc : CtrlMove s c)
include hs hc

theorem quiet_channels_next (hrun : s.phase ≠ .idle)
    (h : (c.phaseAfter s).resting = true ∨ (c.phaseAfter s).stopping = true) :
    (s.next sh c ho).tBcm.Quiet ∧ (s.next sh c ho).tLine.Quiet ∧ (s.next sh c ho).tOn.Quiet := by
  rw [State.next_tBcm, State.next_tLine, State.next_tOn]
  obtain ⟨hstop, hb, hl, ho⟩ | ⟨hph, hb, hl, ho⟩ := hc.quiet_after hrun h <;> rw [hb, hl, ho]
  · obtain ⟨hqb, hql, hqo⟩ := hs.quiet (.inr hstop)
    rw [settleChan_of_quiet _ hqb, settleChan_periodic_of_quiet hql, settleChan_of_quiet _ hqo]
    exact ⟨hqb, hql, hqo⟩
  · have hqb := hs.line_timer (hph ▸ rfl) (hs.line_of_phase (hph ▸ rfl))
    rw [settleChan_of_quiet _ hqb]
    exact ⟨hqb, settleChan_join_disarm _ _ (periodicReq_start s), settleChan_join_disarm _ _ (oneshotReq_start _ _)⟩

/-- In the BCM regime the LINE channels stay silent (R178). -/
theorem line_channels_next_of_bcm (hreg : s.cfg.regime = .bcm) :
    (s.next sh c ho).tLine.Quiet ∧ (s.next sh c ho).tOn.Quiet := by
  obtain ⟨hl, hon⟩ := hc.line_channels_of_bcm hs hreg
  have hquiet : s.tLine.Quiet ∧ s.tOn.Quiet := by
    cases hrest : s.phase.resting with
    | true => exact (hs.quiet (.inl hrest)).2
    | false =>
      obtain ⟨hql, hqo, -⟩ := hs.bcm_timer hrest hreg
      exact ⟨hql, hqo⟩
  rw [State.next_tLine, State.next_tOn, hl, hon, settleChan_periodic_of_quiet hquiet.1,
    settleChan_of_quiet _ hquiet.2]
  exact hquiet

/-- The BCM channel of a running BCM regime is armed or has fired, and not both (R178). -/
theorem bcm_channel_next (hrun : s.phase ≠ .idle) (hreg : s.cfg.regime = .bcm) :
    (s.next sh c ho).tBcm.arm = !(s.next sh c ho).tBcm.ev := by
  rw [State.next_tBcm]
  obtain hb | ⟨-, d, hb⟩ := hc.tBcm_cases hs
  · have hrest : s.phase.resting = false := by
      rw [← Bool.not_eq_true]
      intro hrest
      have hph := ((resting_iff _).mp hrest).resolve_left hrun
      cases hc with
      | prime_bcm => cases hb
      | prime_line _ _ hline => exact ne_line_of_bcm hreg hline
      | _ => simp_all
    have harm := (hs.bcm_timer hrest hreg).2.2
    rw [hb, ChanReq.join_empty, settleChan_oneshot]
    split
    · rfl
    · exact harm
  · rw [hb, settleChan_join_start _ _ _ (oneshotReq_start _ _)]
    exact Channel.started_arm _ _

/-- In the LINE regime the BCM channel stays silent (R178). -/
theorem bcm_channel_next_of_line (hreg : s.cfg.regime = .line) : (s.next sh c ho).tBcm.Quiet := by
  have hquiet : s.tBcm.Quiet := by
    cases hrest : s.phase.resting with
    | true => exact (hs.quiet (.inl hrest)).1
    | false => exact hs.line_timer hrest hreg
  obtain hb | ⟨hbcm, -⟩ := hc.tBcm_cases hs
  · rw [State.next_tBcm, hb, settleChan_of_quiet _ hquiet]
    exact hquiet
  · exact absurd hreg (ne_line_of_bcm hbcm)

/-- The periodic channel runs until a stop silences it (R172, R178). -/
theorem line_armed_next (hrun : s.phase ≠ .idle) (hreg : s.cfg.regime = .line)
    (hrest' : (c.phaseAfter s).resting = false) (hstop' : (c.phaseAfter s).stopping = false) :
    (s.next sh c ho).tLine.arm = true := by
  have hkeep : s.tLine.arm = true →
      ∀ r : ChanReq, r = {} ∨ r = { clear := true } →
        (settleChan s.cnt s.tLine ((periodicReq s).join r)).arm = true := by
    intro harm r hr
    cases h : chanMatches s.cnt s.tLine with
    | true => obtain rfl | rfl := hr <;> rw [periodicReq_of_match h] <;> rfl
    | false => obtain rfl | rfl := hr <;> rw [periodicReq_of_no_match h] <;> exact harm
  have hlong : 2 ≤ (duration s.cfg.linePeriod).toNat := by
    rw [duration, toNat_ofNat_of_lt (hs.legal.linePeriod_lt hs.params_legal)]
    obtain ⟨-, -, -, -, -, -, -, ⟨-, hmin, hline⟩⟩ := hs.legal
    rw [hline]
    omega
  have hrunning : s.phase.resting = false ∧ s.phase.stopping = false ∨
      c.tLine = { start := some (duration s.cfg.linePeriod) } := by
    cases hc with
    | idle hph => exact absurd hph hrun
    | prime_bcm _ _ hbcm => exact absurd hreg (ne_line_of_bcm hbcm)
    | prime_line => exact .inr rfl
    | lStopWait_idle | lStopWait_timeout | lStopWait_more => cases hstop'
    | lStopSafe => cases hrest'
    | _ => exact .inl (by simp only [*]; exact ⟨rfl, rfl⟩)
  rw [State.next_tLine]
  obtain h | h | h | ⟨-, h⟩ := hc.tLine_cases
  · obtain ⟨hrest, hstop⟩ | h' := hrunning
    · exact hkeep (hs.line_armed hrest hstop hreg) _ (.inl h)
    · exact absurd (h.symm.trans h') nofun
  · obtain ⟨hrest, hstop⟩ | h' := hrunning
    · exact hkeep (hs.line_armed hrest hstop hreg) _ (.inr h)
    · exact absurd (h.symm.trans h') nofun
  · rw [h, settleChan_join_start _ _ _ (periodicReq_start s)]
    exact decide_eq_true hlong
  · exact absurd (hstop'.symm.trans h) (by decide)

theorem on_channel_next : ¬ ((s.next sh c ho).tOn.arm = true ∧ (s.next sh c ho).tOn.ev = true) := by
  have hon := hs.on_timer
  rw [State.next_tOn]
  obtain h | h | ⟨d, h⟩ | h := hc.tOn_cases <;> rw [h]
  · rw [ChanReq.join_empty, settleChan_oneshot]
    split
    · exact fun h => nomatch h.1
    · exact hon
  · cases hm : chanMatches s.cnt s.tOn with
    | true => rw [oneshotReq_of_match hm]; exact fun h => nomatch h.1
    | false => rw [oneshotReq_of_no_match hm]; exact fun h => nomatch h.2
  · rw [settleChan_join_start _ _ _ (oneshotReq_start _ _)]
    have harm := Channel.started_arm s.cnt d
    rintro ⟨h1, h2⟩
    rw [h1, h2] at harm
    cases harm
  · exact fun h' => absurd ((settleChan_join_disarm s.cnt s.tOn (oneshotReq_start _ _)).1.symm.trans h'.1) (by decide)

theorem invTimer_next {inp : TickIn} (hrun : s.phase ≠ .idle) (hho : HostMove inp s ho) :
    InvTimer (s.next sh c ho) := by
  rw [InvTimer, next_phase_of_running hrun hho, next_cfg_of_running hrun hho]
  refine ⟨quiet_channels_next hs hc hrun, fun _ hreg => ?_, fun _ hreg => bcm_channel_next_of_line hs hc hreg,
    fun hrest hstop hreg => line_armed_next hs hc hrun hreg hrest hstop, on_channel_next hs hc⟩
  obtain ⟨hl, hon⟩ := line_channels_next_of_bcm (sh := sh) (ho := ho) hs hc hreg
  exact ⟨hl, hon, bcm_channel_next hs hc hrun hreg⟩

end

/-! ## Stop requests and memories -/

section
variable {inp : TickIn} {s : State} {sh c ho : Effect} (hs : Inv s) (hrun : s.phase ≠ .idle)
  (hc : CtrlMove s c) (hho : HostMove inp s ho)

/-- R88, R94: a request is pending or accepted only while a LINE regime runs and no stop is under way. -/
theorem stopReq_running (hs : Inv s) (hrun : s.phase ≠ .idle) (hho : HostMove inp s ho)
    (h : s.stopReq = true ∨ ho.stopReq = some true) :
    s.cfg.regime = .line ∧ s.phase ≠ .idle ∧ s.phase.stopping = false := by
  obtain h | h := h
  · obtain ⟨hreg, -, hstop⟩ := hs.stop_pending h
    exact ⟨hreg, hrun, hstop⟩
  · cases hho with
    | stop _ _ hreg hbusy =>
      obtain ⟨-, hw, hsafe⟩ := s.busy_eq_false_iff.mp hbusy
      refine ⟨hreg, hrun, ?_⟩
      cases hph : s.phase with
      | lStopWait => exact absurd hph hw
      | lStopSafe => exact absurd hph hsafe
      | _ => rfl
    | setting he =>
      rw [← he] at h
      cases h
    | _ => cases h

/-- `L_STOP_REQ` takes the request up; elsewhere the controller does not touch it (R154). -/
theorem CtrlMove.stopReq_cases (hc : CtrlMove s c) :
    c.stopReq = none ∧ (s.phase = .lIdle → s.stopReq = false) ∨ s.phase = .lIdle ∧ c.stopReq = some false := by
  cases hc with
  | lStopReq hph => exact .inr ⟨hph, rfl⟩
  | lDone _ hreq | onExpire _ hreq | lineTick_start _ hreq | lineTick_skip _ hreq | lNop _ hreq =>
    exact .inl ⟨rfl, fun _ => hreq⟩
  | _ => exact .inl ⟨rfl, fun h => by simp_all⟩

theorem invStop_next (hs : Inv s) (hrun : s.phase ≠ .idle) (hc : CtrlMove s c) (hho : HostMove inp s ho) :
    InvStop (s.next sh c ho) := by
  intro h
  rw [State.next_stopReq] at h
  rw [next_phase_of_running hrun hho, next_cfg_of_running hrun hho]
  obtain ⟨hnone, hidle⟩ | ⟨-, hsome⟩ := hc.stopReq_cases
  · rw [hnone, Option.none_or] at h
    have hreq : s.stopReq = true ∨ ho.stopReq = some true := by
      cases hreq : ho.stopReq with
      | none =>
        rw [hreq] at h
        exact .inl h
      | some b =>
        rw [hreq] at h
        exact .inr (congrArg some h)
    obtain ⟨hreg, -, hstop⟩ := stopReq_running hs hrun hho hreq
    refine ⟨hreg, ?_, ?_⟩
    · rw [← Bool.not_eq_true]
      intro hrest
      have hph := (hc.resting_after hrun hrest).1
      rw [hph] at hstop
      cases hstop
    · rw [← Bool.not_eq_true]
      intro hstop'
      obtain ⟨hst, -⟩ | ⟨-, -, hd, -⟩ := hc.quiet_after hrun (.inr hstop')
      · exact absurd (hstop.symm.trans hst) (by decide)
      · cases hc with
        | lStopReq => cases hnone
        | _ => cases hd
  · rw [hsome] at h
    cases h

theorem within_packRow {c : Cfg} (fb : Memory) {l k n cap : Nat} {m : Memory} (hm : m.within cap = true)
    (hcap : ∀ i, i < n → bpbOff c l k i < cap) : (packRow c fb l k n m).within cap = true := by
  induction n with
  | zero => exact hm
  | succ n ih => exact Memory.within_write _ (ih fun i hi => hcap i (by omega)) (hcap n (Nat.lt_succ_self n))

theorem within_packPlanes {c : Cfg} (fb : Memory) {l n cap : Nat} {m : Memory} (hm : m.within cap = true)
    (hcap : ∀ k i, k < n → i < c.rowLen → bpbOff c l k i < cap) :
    (packPlanes c fb l n m).within cap = true := by
  induction n with
  | zero => exact hm
  | succ n ih =>
    exact within_packRow fb (ih fun k i hk => hcap k i (by omega)) fun i => hcap n i (Nat.lt_succ_self n)

theorem within_packLines {c : Cfg} (fb : Memory) {n cap : Nat} {m : Memory} (hm : m.within cap = true)
    (hcap : ∀ l k i, l < n → k < c.nBits → i < c.rowLen → bpbOff c l k i < cap) :
    (packLines c fb n m).within cap = true := by
  induction n with
  | zero => exact hm
  | succ n ih =>
    exact within_packPlanes fb (ih fun l k i hl => hcap l k i (by omega)) fun k i => hcap n k i (Nat.lt_succ_self n)

/-- Log 14: `PACK` leaves the bank within its capacity. -/
theorem within_packBank {p : Params} {c : Cfg} (fb : Memory) {m : Memory} (hm : m.within p.bpbCap = true)
    (hfits : packWritesExist p c = true) : (packBank c fb m).within p.bpbCap = true := by
  refine within_packLines fb hm fun l k i hl hk hi => ?_
  simp only [packWritesExist, List.all_eq_true, List.mem_range, decide_eq_true_eq] at hfits
  exact hfits l hl k hk i hi

/-- The banks are written by `PACK` alone, in `PRIME` and `VSYNC` (R24, R56). -/
theorem CtrlMove.bank_cases (hc : CtrlMove s c) :
    c.bank = none ∧ c.rdBank = none ∧ s.phase ≠ .prime ∧ s.phase ≠ .vsync ∨
      (s.phase = .prime ∨ s.phase = .vsync) ∧ PackFits s ∧ c.rdBank = some (!s.rdBank) ∧
        c.bank = some (!s.rdBank, packBank s.cfg s.fb (s.bank (!s.rdBank))) := by
  cases hc with
  | vsync_bcm hph hfits | vsync_line hph hfits => exact .inr ⟨.inr hph, hfits, rfl, rfl⟩
  | prime_bcm hph hfits | prime_line hph hfits => exact .inr ⟨.inl hph, hfits, rfl, rfl⟩
  | _ => exact .inl (by simp [*])

theorem next_bank_of_none (h : c.bank = none) (b : Bool) : (s.next sh c ho).bank b = s.bank b := by
  cases b <;> exact settleBank_none _ _ h

theorem next_bank_of_some {b : Bool} {m : Memory} (h : c.bank = some (b, m)) (b' : Bool) :
    (s.next sh c ho).bank b' = if b' = b then m else s.bank b' := by
  cases b' <;> exact settleBank_some _ _ _ _ h

theorem Inv.bank_mem (hs : Inv s) (b : Bool) :
    (s.bank b).wf = true ∧ (s.bank b).within s.params.bpbCap = true := by
  obtain ⟨-, h0, h1, -, h0c, h1c⟩ := hs.mem
  cases b
  · exact ⟨h0, h0c⟩
  · exact ⟨h1, h1c⟩

theorem bank_mem_next (hs : Inv s) (hc : CtrlMove s c) (b : Bool) :
    ((s.next sh c ho).bank b).wf = true ∧ ((s.next sh c ho).bank b).within s.params.bpbCap = true := by
  obtain ⟨h, -⟩ | ⟨-, ⟨-, hwrites⟩, -, h⟩ := hc.bank_cases
  · rw [next_bank_of_none h]
    exact hs.bank_mem b
  · rw [next_bank_of_some h]
    split
    · exact ⟨wf_packBank _ _ (hs.bank_mem _).1, within_packBank _ (hs.bank_mem _).2 hwrites⟩
    · exact hs.bank_mem b

theorem invMem_next (hs : Inv s) (hc : CtrlMove s c) (hho : HostMove inp s ho) :
    InvMem (s.next sh c ho) := by
  obtain ⟨hfb, -, -, hfbc, -⟩ := hs.mem
  obtain ⟨hwf, hcap⟩ := hho.fb_mem hfb hfbc
  have h0 := bank_mem_next (sh := sh) (ho := ho) hs hc false
  have h1 := bank_mem_next (sh := sh) (ho := ho) hs hc true
  exact ⟨hwf, h0.1, h1.1, hcap, h0.2, h1.2⟩

end

/-! ## Every step -/

theorem inv_next {inp : TickIn} {s : State} {sh c ho : Effect} (hs : Inv s) (hsh : ShiftMove inp s sh)
    (hc : CtrlMove s c) (hho : HostMove inp s ho) : Inv (s.next sh c ho) := by
  by_cases hidle : s.phase = .idle
  · exact inv_next_of_idle hs hidle hsh hc hho
  · exact ⟨invCfg_next hs hidle hc hho, invCursor_next hs hidle hsh hc hho, invDelay_next hs hidle hc hho,
      invShift_next hs hidle hsh hc hho, invPort_next hs hidle hsh hc hho, invTimer_next hs hc hidle hho,
      invStop_next hs hidle hc hho, invMem_next hs hc hho⟩

/-- R90 on the reset column: the reset configuration fits every legal capacity. -/
theorem legal_validate_stgReset {p : Params} (hp : p.Legal) : (validate p Stg.reset).Legal p := by
  obtain ⟨hfb, -, hbpb, -⟩ := id hp
  exact modesetGivesLegalConfiguration p Stg.reset hp hfb hbpb

theorem inv_afterReset {s : State} (hp : s.params.Legal) : Inv s.afterReset :=
  inv_of_resting rfl hp (legal_validate_stgReset hp) rfl rfl (fun h => absurd rfl h) rfl rfl rfl ⟨rfl, rfl⟩
    ⟨rfl, rfl⟩ ⟨rfl, rfl⟩ rfl ⟨rfl, rfl, rfl, rfl, rfl, rfl⟩

/-- Settles O49: a reset tick leads to a machine at rest, any other keeps the invariant clause by clause. -/
theorem invariantKept : Obligations.InvariantKept := by
  intro s t hs h
  cases hrst : s.input.rst with
  | true =>
    obtain rfl := Host.Outcome.next.inj ((step_reset hrst).symm.trans h)
    exact inv_afterReset (s := s.beginTick) hs.params_legal
  | false =>
    obtain ⟨sh, c, ho, ⟨hsh, hc, hho⟩, rfl⟩ := step_eq_next_cases hrst h
    exact inv_next (s := s.beginTick) hs hsh hc hho

/-- Settles O48. -/
theorem invariantAtReset : Obligations.InvariantAtReset :=
  inv_of_resting rfl (by decide) (legal_validate_stgReset (by decide)) rfl rfl (fun h => absurd rfl h) rfl rfl rfl
    ⟨rfl, rfl⟩ ⟨rfl, rfl⟩ ⟨rfl, rfl⟩ rfl ⟨rfl, rfl, rfl, rfl, rfl, rfl⟩

end Sys2Proof.Machine
end

section
/-! PROOFS. The tick in normal form: what the shifter and the controller answer, and the host's writes beside them.
From it follow which operation a tick runs (00_scope.md R6, R9), and what a tick does not depend on (20_memory.md
R50, R51, R55; 46_timer.md R175). -/

namespace Sys2Proof.Machine

/-! ## The normal form -/

/-- The writes of the host access of a tick, if there is one. -/
def hostEffect (inp : TickIn) (s : State) : Effect :=
  match gather (hostOps inp s) s with
  | .ok e => e
  | .error _ => {}

theorem gather_hostOps (inp : TickIn) (s : State) :
    gather (hostOps inp s) s = .ok (hostEffect inp s) ∧ HostMove inp s (hostEffect inp s) := by
  obtain ⟨e, he, hmove⟩ := gather_hostOps_move inp s
  have heq : hostEffect inp s = e := by rw [hostEffect, he]
  rw [heq]
  exact ⟨he, hmove⟩

theorem hostEffect_of_none {inp : TickIn} (s : State) (h : inp.hostOp = none) : hostEffect inp s = {} := by
  rw [hostEffect, hostOps, h]
  rfl

theorem hostEffect_of_op {inp : TickIn} {s : State} {w : HostWord} {e : Effect} (hop : inp.hostOp = some w)
    (he : effectOf (decodeHost s.params w) s = .ok e) : hostEffect inp s = e := by
  rw [hostEffect, hostOps, hop]
  simp only [gather_cons_ok he (gather_nil s), Effect.join_empty]

/-- A tick whose shifter and controller answer `a` and `b`: the state their writes lead to, or the first fault. -/
def tickOutcome (a b : Except Fault Effect) (k : Effect → Effect → State) : Host.Outcome State Fault Refusal :=
  match a, b with
  | .ok sh, .ok c => .next (k sh c)
  | .error f, _ => .fault f
  | .ok _, .error f => .fault f

theorem mapNext_tickOutcome (f : State → State) (a b : Except Fault Effect) (k : Effect → Effect → State) :
    mapNext f (tickOutcome a b k) = tickOutcome a b fun sh c => f (k sh c) := by
  cases a <;> cases b <;> rfl

theorem tickOutcome_congr {a b : Except Fault Effect} {k k' : Effect → Effect → State}
    (h : ∀ sh c, a = .ok sh → b = .ok c → k sh c = k' sh c) : tickOutcome a b k = tickOutcome a b k' := by
  cases a with
  | error f => rfl
  | ok sh => cases b with
    | error f => rfl
    | ok c => exact congrArg Host.Outcome.next (h sh c rfl rfl)

/-- Every tick but a reset tick. -/
theorem step_eq_tickOutcome {s : State} (hrst : s.input.rst = false) :
    step s = tickOutcome (effectOf (shifterOp s.input s.beginTick) s.beginTick)
      (effectOf s.phase.op s.beginTick)
      fun sh c => s.beginTick.next sh c (hostEffect s.input s.beginTick) := by
  rw [step_tick hrst]
  obtain ⟨hho, hmove⟩ := gather_hostOps s.input s.beginTick
  have hc : effectOf (controllerOp s.beginTick) s.beginTick = effectOf s.phase.op s.beginTick :=
    effectOf_controllerOp s.beginTick
  cases hsh : effectOf (shifterOp s.input s.beginTick) s.beginTick with
  | error f =>
    have herr : gather (fetch s.input s.beginTick) s.beginTick = .error f := by
      rw [fetch_eq]
      simp only [gather, hsh, hho, hc]
      rfl
    rw [herr]
    rfl
  | ok sh =>
    cases hb : effectOf s.phase.op s.beginTick with
    | error f =>
      have herr : gather (fetch s.input s.beginTick) s.beginTick = .error f := by
        rw [fetch_eq]
        simp only [gather, hsh, hho, hc, hb]
        rfl
      rw [herr]
      rfl
    | ok c =>
      rw [gather_fetch_eq_ok_iff.mpr ⟨sh, c, _, hsh, hb, hho, rfl⟩]
      rfl

theorem step_of_effects {s : State} {sh c : Effect} (hrst : s.input.rst = false)
    (hsh : effectOf (shifterOp s.input s.beginTick) s.beginTick = .ok sh)
    (hc : effectOf s.phase.op s.beginTick = .ok c) :
    step s = .next (s.beginTick.next sh c (hostEffect s.input s.beginTick)) := by
  rw [step_eq_tickOutcome hrst, hsh, hc]
  rfl

/-- The next state of a tick other than a reset tick, with the host's part given by its access. -/
theorem moves_of_step {s t : State} (hrst : s.input.rst = false) (h : step s = .next t) :
    ∃ sh c, Moves s sh c (hostEffect s.input s.beginTick) ∧
      t = s.beginTick.next sh c (hostEffect s.input s.beginTick) := by
  rw [step_eq_tickOutcome hrst] at h
  obtain ⟨-, hmove⟩ := gather_hostOps s.input s.beginTick
  cases hsh : effectOf (shifterOp s.input s.beginTick) s.beginTick with
  | error f => rw [hsh] at h; cases h
  | ok sh =>
    cases hc : effectOf s.phase.op s.beginTick with
    | error f => rw [hsh, hc] at h; cases h
    | ok c =>
      rw [hsh, hc] at h
      cases h
      exact ⟨sh, c, ⟨shiftMove_of_effectOf hsh, ctrlMove_of_effectOf hc, hmove⟩, rfl⟩

end Sys2Proof.Machine
end

section
/-! PROOFS. Totality, and what no step can do: each statement is a case split on the agents' moves of one tick. -/

namespace Sys2Proof.Machine

/-! ## Every step under the invariant answers -/

/-- Settles O29. -/
theorem legalConfigurationNeverFaultsPack : Obligations.LegalConfigurationNeverFaultsPack :=
  fun _ hc => packFits_of_legal hc

/-- The byte a busy shifter reads exists. -/
theorem Inv.shOff_lt {s : State} (hs : Inv s) (h : s.shPhase ≠ .idle) : s.shOff < s.params.bpbCap := by
  obtain ⟨hline, hplane, hidx⟩ := hs.transfer_lt h
  have hwrites := packWritesExist_of_legal hs.legal
  simp only [packWritesExist, List.all_eq_true, List.mem_range, decide_eq_true_eq] at hwrites
  exact hwrites _ hline _ hplane _ hidx

theorem effectOf_shifterOp_ok {s : State} (hs : Inv s) (inp : TickIn) :
    ∃ sh, effectOf (shifterOp inp s) s = .ok sh := by
  rw [shifterOp_eq]
  split
  · exact ⟨_, rfl⟩
  · cases hsh : s.shPhase with
    | data => exact ⟨_, effShData_of_lt (hs.shOff_lt (by rw [hsh]; decide))⟩
    | idle | clkhi | clklo | exit => exact ⟨_, rfl⟩

theorem effectOf_phaseOp_ok {s : State} (hs : Inv s) : ∃ c, effectOf s.phase.op s = .ok c := by
  have hpack : effPack s = .ok (packEffect s) := effPack_eq_ok_iff.mpr ⟨packFits_of_legal hs.legal, rfl⟩
  cases hph : s.phase
  case prime =>
    change ∃ c, effPrime s = .ok c
    unfold effPrime
    rw [hpack]
    cases s.cfg.regime <;> exact ⟨_, rfl⟩
  case vsync =>
    change ∃ c, effVsync s = .ok c
    unfold effVsync
    rw [hpack]
    cases s.cfg.regime <;> exact ⟨_, rfl⟩
  all_goals exact ⟨_, rfl⟩

theorem Inv.beginTick {s : State} (hs : Inv s) : Inv s.beginTick := hs

/-- Settles O50: the two operations that can fault touch only bytes that exist. -/
theorem tickIsTotal : Obligations.TickIsTotal := by
  intro s hs
  cases hrst : s.input.rst with
  | true => exact ⟨_, step_reset hrst⟩
  | false =>
    obtain ⟨sh, hsh⟩ := effectOf_shifterOp_ok hs.beginTick s.input
    obtain ⟨c, hc⟩ := effectOf_phaseOp_ok hs.beginTick
    exact ⟨_, step_of_effects hrst hsh hc⟩

/-! ## Resets -/

/-- Settles O6. -/
theorem resetTickRunsReset : Obligations.ResetTickRunsReset := by
  intro s hrst
  refine ⟨step_reset hrst, fun inp hinp => ?_⟩
  rw [step_reset hrst, step_reset (s := { s with inputs := inp :: s.inputs.tail }) hinp]
  rfl

/-! ## IDLE and the regimes -/

/-- The host moves the controller's phase by `START` only (R87). -/
theorem HostMove.phase_cases {inp : TickIn} {s : State} {ho : Effect} (hho : HostMove inp s ho) :
    ho.phase = none ∨ ho.phase = some .prime ∧ inp.hostOp = some (HostWord.write 0x00 1) := by
  cases hho with
  | start hop => exact .inr ⟨rfl, hop⟩
  | setting he => rw [← he]; exact .inl rfl
  | stop | modeset | fbWrite => exact .inl rfl

/-- Settles O60. -/
theorem idleIsLeftOnlyByStart : Obligations.IdleIsLeftOnlyByStart := by
  intro s t hph hrst h
  obtain ⟨sh, c, hm, rfl⟩ := moves_of_step hrst h
  obtain rfl := hm.ctrl.eq_of_idle hph
  split
  · rename_i hop
    have hho : hostEffect s.input s.beginTick = effStart s.beginTick := hostEffect_of_op hop rfl
    rw [State.next_phase, hho, effStart, State.beginTick_phase, hph]
    rfl
  · rename_i hop
    have hho : (hostEffect s.input s.beginTick).phase = none :=
      hm.host.phase_cases.resolve_right fun h => hop h.2
    rw [State.next_phase, hho, State.beginTick_phase, hph]
    rfl

/-- Settles O26: only `L_STOP_SAFE` leads to `IDLE`, and it is a phase of the LINE regime. -/
theorem bcmRegimeNeverStops : Obligations.BcmRegimeNeverStops := by
  intro s t hs hrst hreg hrun h
  obtain ⟨sh, c, ho, hm, rfl⟩ := step_eq_next_cases hrst h
  refine ⟨fun hidle => ?_, next_cfg_of_running (s := s.beginTick) hrun hm.host⟩
  have hafter : c.phaseAfter s.beginTick = .idle := 
    (next_phase_of_running (s := s.beginTick) hrun hm.host).symm.trans hidle
  obtain ⟨hph, -⟩ := hm.ctrl.resting_after (s := s.beginTick) hrun (hafter ▸ rfl)
  exact ne_line_of_bcm hreg (hs.line_of_phase ((congrArg Phase.lineOnly hph).trans rfl))

/-! ## The address wires -/

/-- Only `SET_LINE`, `L_SET_LINE` and `L_STOP_SAFE` change the address, all of them dark (R136, R162, R165). -/
theorem CtrlMove.dark_of_addr {s : State} {c : Effect} (hs : Inv s) (hc : CtrlMove s c)
    (h : c.addr.getD s.port.addr ≠ s.port.addr) : s.phase.dark = true ∧ c.oeN.getD s.port.oeN = true := by
  cases hc with
  | setLine hph | lSetLine hph =>
    have hdark : s.phase.dark = true := hph ▸ rfl
    exact ⟨hdark, hs.oeN_of_dark hdark⟩
  | lStopSafe hph => exact ⟨hph ▸ rfl, rfl⟩
  | _ => exact absurd rfl h

/-- Settles O54. -/
theorem addressChangesOnlyWhileBlank : Obligations.AddressChangesOnlyWhileBlank := by
  intro s t hs hrst h hne
  obtain ⟨sh, c, ho, hm, rfl⟩ := step_eq_next_cases hrst h
  obtain ⟨hdark, hafter⟩ := hm.ctrl.dark_of_addr hs.beginTick hne
  exact ⟨hs.oeN_of_dark hdark, hafter⟩

/-! ## The memories -/

/-- Settles O56. -/
theorem bankDiscipline : Obligations.BankDiscipline := by
  intro s t hs hrst h
  obtain ⟨sh, c, ho, hm, rfl⟩ := step_eq_next_cases hrst h
  obtain ⟨hbank, hrd, hprime, hvsync⟩ | ⟨hph, -, hrd, hbank⟩ := hm.ctrl.bank_cases
  · refine ⟨fun hph => absurd hph (not_or.mpr ⟨hprime, hvsync⟩), fun _ _ => ?_⟩
    exact ⟨next_bank_of_none (b := false) hbank, next_bank_of_none (b := true) hbank,
      congrArg (Option.getD · s.rdBank) hrd⟩
  · refine ⟨fun _ => ⟨?_, ?_, congrArg (Option.getD · s.rdBank) hrd⟩, fun hprime hvsync => ?_⟩
    · obtain hprime | hvsync := hph
      · exact .inl (hs.shIdle_of_phase (.inl ((congrArg Phase.resting hprime).trans rfl)))
      · exact or_iff_not_imp_left.mpr (hs.shBank_of_vsync hvsync)
    · exact (next_bank_of_some hbank s.rdBank).trans (if_neg (by simp))
    · exact absurd hph (not_or.mpr ⟨hprime, hvsync⟩)

/-- The host writes the configuration by an accepted `MODESET` only (R90). -/
theorem HostMove.cfg_cases {inp : TickIn} {s : State} {ho : Effect} (hho : HostMove inp s ho) :
    ho.cfg = none ∨ ho.cfg = some (validate s.params s.stg) ∧ s.phase = .idle ∧
      inp.hostOp = some (HostWord.write 0x00 3) ∧ (validate s.params s.stg).fits s.params = true := by
  cases hho with
  | modeset hop hph hfits => exact .inr ⟨rfl, hph, hop, hfits⟩
  | setting he => rw [← he]; exact .inl rfl
  | start | stop | fbWrite => exact .inl rfl

/-- The host writes the framebuffer by a write into its window only (R92). -/
theorem HostMove.fb_cases {inp : TickIn} {s : State} {ho : Effect} (hho : HostMove inp s ho) :
    ho.fb = none ∨ ∃ a v, inp.hostOp = some (HostWord.write a v) ∧ InFbWindow s.params a ∧
      ho.fb = some (s.fb.write (fbOffset a) (v.setWidth 8)) := by
  cases hho with
  | fbWrite a v hop hwin => exact .inr ⟨a, v, hop, hwin, rfl⟩
  | setting he => rw [← he]; exact .inl rfl
  | start | stop | modeset => exact .inl rfl

/-- Settles O57. -/
theorem onlyTheHostWritesConfigurationAndFramebuffer :
    Obligations.OnlyTheHostWritesConfigurationAndFramebuffer := by
  intro s t hrst h
  obtain ⟨sh, c, ho, hm, rfl⟩ := step_eq_next_cases hrst h
  refine ⟨fun hne => ?_, fun hne => ?_⟩
  · obtain hcfg | ⟨hcfg, hph, hop, hfits⟩ := hm.host.cfg_cases
    · exact absurd (congrArg (Option.getD · s.cfg) hcfg) hne
    · have hnext : (s.beginTick.next sh c ho).cfg = validate s.params s.stg :=
        congrArg (Option.getD · s.cfg) hcfg
      exact ⟨hph, hop, hnext, hnext ▸ hfits⟩
  · obtain hfb | ⟨a, v, hop, hwin, hfb⟩ := hm.host.fb_cases
    · exact absurd (congrArg (Option.getD · s.fb) hfb) hne
    · have hnext : (s.beginTick.next sh c ho).fb = s.fb.write (fbOffset a) (v.setWidth 8) :=
        congrArg (Option.getD · s.fb) hfb
      refine ⟨a, v, hwin, hop, fun x => ?_⟩
      rw [← State.next, hnext, Memory.read_write]
      rfl

end Sys2Proof.Machine
end

section
/-! PROOFS. What a tick runs where only one agent acts (00_scope.md R6, R9; 42_shifter.md R117), and what a tick does
not depend on (20_memory.md R50(e), R51, R55; 46_timer.md R175). -/

namespace Sys2Proof.Machine

/-! ## A tick without a match -/

theorem timerEffect_of_noMatch {s : State} (h : NoMatch s) : timerEffect s = { cnt := some (s.cnt + 1) } := by
  obtain ⟨hbcm, hline, hon⟩ := h
  rw [timerEffect, oneshotReq_of_no_match hbcm, periodicReq_of_no_match hline, oneshotReq_of_no_match hon]

theorem commit_count_join {s : State} {e : Effect} (h : e.cnt = none) :
    commit s (Effect.join { cnt := some (s.cnt + 1) } e) = (commit s e).counted := by
  have hjoin : Effect.join { cnt := some (s.cnt + 1) } e = { e with cnt := some (s.cnt + 1) } := by
    simp [Effect.join, h, ChanReq.empty_join, StatusBits.union]
  have hcnt : (commit s e).cnt = s.cnt := congrArg (Option.getD · s.cnt) h
  rw [hjoin, State.counted, hcnt]
  rfl

theorem ShiftMove.shifterPart_eq {inp : TickIn} {s : State} {sh : Effect} (hsh : ShiftMove inp s sh) :
    sh.OfShifter := by
  cases hsh <;> rfl

/-- Where no channel matches, a tick is its agents' writes and the counter. -/
theorem next_of_noMatch {inp : TickIn} {s : State} {sh c ho : Effect} (h : NoMatch s) (hsh : ShiftMove inp s sh)
    (hc : CtrlMove s c) (hho : HostMove inp s ho) :
    s.next sh c ho = (commit s (sh.join (c.join ho))).counted := by
  have hsh' := hsh.shifterPart_eq
  have hcnt : (sh.join (c.join ho)).cnt = none := by
    rw [← hsh', ← hc.ctrlPart_eq, ← hho.hostPart_eq]
    rfl
  rw [State.next, ← join_eq_tickEffect s hsh' hc.ctrlPart_eq hho.hostPart_eq, timerEffect_of_noMatch h,
    commit_count_join hcnt]

/-! ## The controller alone -/

/-- Settles O7: with nothing else to do, the tick's outcome is the controller's. -/
theorem stepRunsControllerOperation : Obligations.StepRunsControllerOperation := by
  intro s i hin hsh hmatch hi
  obtain rfl : s.phase.op = i := Except.ok.inj ((decode_phase_code s.params s.phase).symm.trans hi)
  have hrst : s.input.rst = false := by rw [hin]
  have hho : hostEffect s.input s.beginTick = {} := hostEffect_of_none _ (by rw [hin])
  have hshift : effectOf (shifterOp s.input s.beginTick) s.beginTick = .ok {} := by
    rw [shifterOp_of_idle s.input (s := s.beginTick) hsh]
    rfl
  have hstep : step s = mapNext State.counted (solo (effectOf s.phase.op s.beginTick) s.beginTick) := by
    rw [step_eq_tickOutcome hrst, hshift, hho]
    cases hc : effectOf s.phase.op s.beginTick with
    | error f => rfl
    | ok c =>
      have hmoves := next_of_noMatch (inp := s.input) (s := s.beginTick) hmatch (.idle hsh)
        (ctrlMove_of_effectOf hc) (.setting (e := {}) rfl)
      rw [Effect.join_empty, Effect.empty_join] at hmoves
      exact congrArg Host.Outcome.next hmoves
  refine ⟨?_, fun hph h hh => ?_⟩
  · rw [hstep, exec_eq_solo _ _ (by cases s.phase <;> decide)]
  · obtain rfl : decodeLidle s.lidleWord = h := Except.ok.inj ((decode_lidle s.params s.lidleWord).symm.trans hh)
    have hreset : decodeLidle s.lidleWord ≠ .reset := by
      rw [decodeLidle_lidleWord]
      repeat' split
      all_goals decide
    rw [hstep, exec_eq_solo _ _ hreset, hph]
    exact congrArg (fun o => mapNext State.counted (solo o s.beginTick)) (effectOf_lIdle s.beginTick)

/-! ## A waiting controller -/

/-- A waiting controller writes at most the phase it is in. -/
theorem CtrlMove.eq_of_waits {s : State} {c : Effect} (hc : CtrlMove s c) (h : s.waits = true) :
    c = {} ∨ s.phase ≠ .idle ∧ c = { phase := some s.phase } := by
  unfold State.waits at h
  cases hc with
  | idle | lNop => exact .inl rfl
  | waitBit_wait hph | waitDim_wait hph | shiftWait_wait hph =>
    rw [hph]
    exact .inr ⟨by decide, rfl⟩
  | _ => simp_all

theorem effectOf_of_waits {s : State} (h : s.waits = true) : ∃ c, effectOf s.phase.op s = .ok c := by
  refine effectOf_ok ?_ s
  unfold State.waits at h
  cases hph : s.phase <;> simp_all [Phase.op]

/-- Writing the phase it is in changes nothing. -/
theorem commit_stay {s : State} {e : Effect} (h : e.phase = none) :
    commit s { e with phase := some s.phase } = commit s e := by
  have hphase : (commit s e).phase = s.phase := congrArg (Option.getD · s.phase) h
  exact (congrArg (fun ph => { commit s e with phase := ph }) hphase).symm

/-- A waiting controller leaves the shifter's writes as they are. -/
theorem CtrlMove.commit_join_of_waits {inp : TickIn} {s : State} {sh c : Effect} (hc : CtrlMove s c)
    (h : s.waits = true) (hsh : ShiftMove inp s sh) : commit s (sh.join c) = commit s sh := by
  obtain rfl | ⟨-, rfl⟩ := hc.eq_of_waits h
  · rw [Effect.join_empty]
  · have hphase : sh.phase = none := by rw [← hsh.shifterPart_eq]; rfl
    have hjoin : sh.join { phase := some s.phase } = { sh with phase := some s.phase } := by
      simp [Effect.join, hphase, StatusBits.union]
    rw [hjoin, commit_stay hphase]

/-- A waiting controller leaves the host's writes as they are. -/
theorem CtrlMove.commit_join_host_of_waits {inp : TickIn} {s : State} {c ho : Effect} (hc : CtrlMove s c)
    (h : s.waits = true) (hho : HostMove inp s ho) : commit s (c.join ho) = commit s ho := by
  obtain rfl | ⟨hrun, rfl⟩ := hc.eq_of_waits h
  · rw [Effect.empty_join]
  · obtain ⟨hphase, -⟩ := hho.of_running hrun
    have hjoin : Effect.join { phase := some s.phase } ho = { ho with phase := some s.phase } := by
      simp [Effect.join, StatusBits.union]
    rw [hjoin, commit_stay hphase]

theorem Phase.op_ne_reset (ph : Phase) : ph.op ≠ .reset := by cases ph <;> decide

theorem shifterOp_ne_reset (inp : TickIn) (s : State) : shifterOp inp s ≠ .reset := by
  rw [shifterOp_eq]
  split
  · decide
  · cases s.shPhase <;> decide

/-- Settles O9: the waiting controller's writes add nothing to the shifter's. -/
theorem stepRunsShifterOperation : Obligations.StepRunsShifterOperation := by
  intro s i hrst hop hwaits hmatch hi
  obtain rfl : s.shPhase.op = i := Except.ok.inj ((decode_shphase_code s.params s.shPhase).symm.trans hi)
  have hfetch : shifterOp s.input s.beginTick =
      if s.input.txStall = true ∧ s.cfg.regime = .line ∧ s.shPhase ≠ .idle then .shStall else s.shPhase.op := by
    have hstall : stalled s.input s = true ↔
        s.input.txStall = true ∧ s.cfg.regime = .line ∧ s.shPhase ≠ .idle := by
      simp [stalled, and_assoc]
    rw [shifterOp_eq]
    exact if_congr hstall rfl rfl
  have hho : hostEffect s.input s.beginTick = {} := hostEffect_of_none _ hop
  obtain ⟨c, hc⟩ := effectOf_of_waits (s := s.beginTick) hwaits
  rw [← hfetch, exec_eq_solo _ _ (shifterOp_ne_reset _ _), step_eq_tickOutcome hrst, hho]
  have hctrl : effectOf s.phase.op s.beginTick = .ok c := hc
  rw [hctrl]
  cases hsh : effectOf (shifterOp s.input s.beginTick) s.beginTick with
  | error f => rfl
  | ok sh =>
    have hmove := shiftMove_of_effectOf hsh
    have hnext := next_of_noMatch (s := s.beginTick) hmatch hmove (ctrlMove_of_effectOf hc)
      (.setting (e := {}) rfl)
    rw [Effect.join_empty, (ctrlMove_of_effectOf hc).commit_join_of_waits hwaits hmove] at hnext
    exact congrArg Host.Outcome.next hnext

/-! ## The host alone, and beside the others -/

/-- The controller raises none of the host's error flags (60_exceptions.md R182, R184). -/
theorem CtrlMove.raises_no_host_error {s : State} {c : Effect} (hc : CtrlMove s c) :
    c.raised.errCmd = false ∧ c.raised.errNomem = false := by
  cases hc <;> exact ⟨rfl, rfl⟩

/-- A request is taken up by `L_STOP_REQ`, and where there is one in `L_IDLE`, it is (R154). -/
theorem CtrlMove.stopReq_eq {s : State} {c : Effect} (hc : CtrlMove s c) :
    c.stopReq = if s.phase = .lIdle ∧ s.stopReq = true then some false else none := by
  cases hc with
  | lStopReq hph hreq => rw [if_pos ⟨hph, hreq⟩]
  | idle | lNop => exact (if_neg (by simp [*])).symm
  | _ => exact (if_neg (by simp_all)).symm

/-- R80: host words select host operations only. -/
theorem encode_decodeHost_format (p : Params) (w : HostWord) : (encode (decodeHost p w)).1 = .host := by
  cases hrw : w.rw with
  | true => rw [encodeOfDecodedHostWord p w fun h => absurd (hrw.symm.trans h) (by decide)]
  | false =>
    have hread := encodeOfDecodedHostWord p (HostWord.read w.addr) fun _ => HostWord.value_read _
    rw [decodeHost_of_read p hrw, ← decodeHost_read, hread]

theorem decodeHost_ne_reset (p : Params) (w : HostWord) : decodeHost p w ≠ .reset := by
  intro h
  have hformat := encode_decodeHost_format p w
  rw [h] at hformat
  cases hformat

/-- Settles O8. -/
theorem stepRunsHostAccess : Obligations.StepRunsHostAccess := by
  intro s w i hrst hop hi
  obtain rfl : decodeHost s.params w = i := Except.ok.inj ((decode_host s.params w).symm.trans hi)
  obtain ⟨ho, hho, hmove⟩ := hostMove_of_hostOp (s := s.beginTick) hop
  have hhost : hostEffect s.input s.beginTick = ho := hostEffect_of_op hop hho
  have hexec : exec (decodeHost s.params w) s.beginTick = .next (commit s.beginTick ho) := by
    rw [exec_eq_solo _ _ (decodeHost_ne_reset _ _)]
    exact congrArg (solo · s.beginTick) hho
  refine ⟨⟨_, hexec, fun t h => ?_⟩, fun hwaits hsh hmatch => ?_⟩
  · obtain ⟨sh, c, hm, rfl⟩ := moves_of_step hrst h
    rw [hhost]
    obtain ⟨hcmd, hnomem⟩ := hm.ctrl.raises_no_host_error
    refine ⟨rfl, rfl, rfl, rfl, rfl, rfl, ?_, ?_, ?_⟩
    · simp [commit, settleSticky, StatusBits.union, hcmd]
    · simp [commit, settleSticky, StatusBits.union, hnomem]
    · rw [State.next_stopReq, hm.ctrl.stopReq_eq]
      by_cases htaken : s.phase = .lIdle ∧ s.stopReq = true
      · rw [if_pos htaken, if_pos (c := s.beginTick.phase = .lIdle ∧ s.beginTick.stopReq = true) htaken]
        rfl
      · rw [if_neg htaken, if_neg (c := s.beginTick.phase = .lIdle ∧ s.beginTick.stopReq = true) htaken]
        rfl
  · obtain ⟨c, hc⟩ := effectOf_of_waits (s := s.beginTick) hwaits
    have hshift : effectOf (shifterOp s.input s.beginTick) s.beginTick = .ok {} := by
      rw [shifterOp_of_idle s.input (s := s.beginTick) hsh]
      rfl
    have hnext := next_of_noMatch (inp := s.input) (s := s.beginTick) hmatch (.idle hsh)
      (ctrlMove_of_effectOf hc) hmove
    rw [Effect.empty_join, (ctrlMove_of_effectOf hc).commit_join_host_of_waits hwaits hmove] at hnext
    rw [step_of_effects hrst hshift hc, hhost, hexec, hnext]
    rfl

end Sys2Proof.Machine
end

section
/-! PROOFS. What a tick does not depend on: the same operations answer the same writes on two states that differ in
a part none of them uses (20_memory.md R50(e), R51, R55; 46_timer.md R175). -/

namespace Sys2Proof

/-! ## What an operation uses -/

/-- The operations that read or write `FB`. -/
def Instr.usesFb : Instr → Bool
  | .pack | .prime | .vsync | .fbWr _ _ | .fbRd _ => true
  | _ => false

/-- The staged registers, read at their offsets (30_encoding.md R62). -/
def HostReg.isStaged (r : HostReg) : Bool := decide (0x20 ≤ r.offset.toNat ∧ r.offset.toNat ≤ 0x50)

/-- The operations that read or write a staged register. -/
def Instr.usesStaged : Instr → Bool
  | .modeset | .wrXres _ | .wrYres _ | .wrBpp _ | .wrRefresh _ | .wrPanelW _ | .wrPanelH _ | .wrNLines _
  | .wrNBits _ | .wrFlags _ | .wrBcmUnit _ | .wrDimTicks _ | .wrLatchHold _ | .wrStopTimeout _ => true
  | .rdReg r => r.isStaged
  | _ => false

/-- The operations that compare with the counter. -/
def Instr.usesCounter : Instr → Bool
  | .tmrCount | .tmrMatchOneshot _ | .tmrMatchPeriodic => true
  | _ => false

end Sys2Proof

namespace Sys2Proof.Machine

/-! ## Ticks of two states -/

/-- A tick commutes with a change of the state that neither its operations nor the commit of their writes see. -/
theorem step_of_commutes (f : State → State) {s : State} (hrst : s.input.rst = false)
    (hinput : (f s).input = s.input) (hbegin : (f s).beginTick = f s.beginTick)
    (hshift : effectOf (shifterOp s.input (f s.beginTick)) (f s.beginTick) =
      effectOf (shifterOp s.input s.beginTick) s.beginTick)
    (hphase : (f s).phase = s.phase)
    (hctrl : effectOf s.phase.op (f s.beginTick) = effectOf s.phase.op s.beginTick)
    (hhost : hostEffect s.input (f s.beginTick) = hostEffect s.input s.beginTick)
    (hnext : ∀ sh c, Moves s sh c (hostEffect s.input s.beginTick) →
      (f s.beginTick).next sh c (hostEffect s.input s.beginTick) =
        f (s.beginTick.next sh c (hostEffect s.input s.beginTick))) :
    step (f s) = mapNext f (step s) := by
  obtain ⟨-, hmove⟩ := gather_hostOps s.input s.beginTick
  rw [step_eq_tickOutcome hrst, step_eq_tickOutcome (hinput ▸ hrst), hinput, hbegin, hphase, hshift, hctrl, hhost,
    mapNext_tickOutcome]
  exact tickOutcome_congr fun sh c hsh hc =>
    hnext sh c ⟨shiftMove_of_effectOf hsh, ctrlMove_of_effectOf hc, hmove⟩

/-- The host's writes are those of its operation. -/
theorem hostEffect_congr {inp : TickIn} {s t : State} (hparams : t.params = s.params)
    (h : ∀ w, inp.hostOp = some w →
      effectOf (decodeHost s.params w) t = effectOf (decodeHost s.params w) s) :
    hostEffect inp t = hostEffect inp s := by
  cases hop : inp.hostOp with
  | none => rw [hostEffect_of_none t hop, hostEffect_of_none s hop]
  | some w =>
    obtain ⟨e, he, -⟩ := hostMove_of_hostOp (s := s) hop
    rw [hostEffect_of_op hop he, hostEffect_of_op hop]
    rw [hparams, h w hop, he]

/-! ## Reads -/

theorem effectOf_decodeRead (p : Params) (a : Word) (s : State) :
    ∃ answer, effectOf (decodeRead p a) s = .ok { rdData := some answer } := by
  unfold decodeRead
  split
  · exact ⟨_, rfl⟩
  · split
    · change ∃ answer, Except.ok (effFbRd a s) = _
      unfold effFbRd
      split <;> exact ⟨_, rfl⟩
    · exact ⟨_, rfl⟩

/-- Settles O19: a read writes only its answer. -/
theorem hostReadsHaveNoSideEffect : Obligations.HostReadsHaveNoSideEffect := by
  intro s w stall hrw
  obtain ⟨answer, hread⟩ := effectOf_decodeRead s.params w.addr { s with rdData := 0 }
  refine ⟨answer, ?_⟩
  have hwith : hostEffect { hostOp := some w, txStall := stall } { s with rdData := 0 } =
      { rdData := some answer } :=
    hostEffect_of_op rfl ((congrArg (effectOf · _) (decodeHost_of_read s.params hrw)).trans hread)
  have hwithout : hostEffect { txStall := stall } { s with rdData := 0 } = {} := hostEffect_of_none _ rfl
  rw [step_eq_tickOutcome rfl, step_eq_tickOutcome rfl, mapNext_tickOutcome]
  refine Eq.trans (tickOutcome_congr fun sh c _ _ => ?_) rfl
  exact (congrArg (State.next { s with rdData := 0 } sh c) hwith).trans
    (congrArg (fun ho => { State.next { s with rdData := 0 } sh c ho with rdData := answer }) hwithout).symm

/-! ## The framebuffer -/

theorem effectOf_of_not_usesFb {i : Instr} (h : i.usesFb = false) (s : State) (m : Memory) :
    effectOf i { s with fb := m } = effectOf i s := by
  cases i with
  | pack | prime | vsync | fbWr | fbRd => cases h
  | rdReg r => cases r <;> rfl
  | _ => rfl

theorem decodeHost_usesFb {p : Params} {w : HostWord} (h : ¬ InFbWindow p w.addr) :
    (decodeHost p w).usesFb = false := by
  have hwin : inFbWindow p w.addr = false := Bool.eq_false_of_not_eq_true fun hin => h ((inFbWindow_iff _ _).mp hin)
  cases hrw : w.rw with
  | true =>
    rw [decodeHost_of_write p hrw, decodeWrite, hwin]
    split
    · unfold decodeCommand
      split <;> rfl
    all_goals rfl
  | false =>
    rw [decodeHost_of_read p hrw, decodeRead, hwin]
    split <;> rfl

/-- The shifter's operation uses neither `FB`, nor the staged registers, nor the counter. -/
theorem effectOf_shifterOp_congr {inp : TickIn} {s t : State} (hcfg : t.cfg = s.cfg) (hsh : t.shPhase = s.shPhase)
    (h : effectOf s.shPhase.op t = effectOf s.shPhase.op s) :
    effectOf (shifterOp inp t) t = effectOf (shifterOp inp s) s := by
  have hstall : stalled inp t = stalled inp s := by rw [stalled, stalled, hcfg, hsh]
  rw [shifterOp_eq, shifterOp_eq, hstall, hsh]
  split
  · rfl
  · exact h

/-- Settles O58. -/
theorem framebufferActsOnlyThroughPack : Obligations.FramebufferActsOnlyThroughPack := by
  intro s m hrst hprime hvsync hwin
  refine step_of_commutes (fun t => { t with fb := m }) hrst rfl rfl ?_ rfl ?_ ?_ fun sh c hm => ?_
  · refine effectOf_shifterOp_congr rfl rfl (effectOf_of_not_usesFb ?_ _ _)
    cases s.beginTick.shPhase <;> rfl
  · refine effectOf_of_not_usesFb ?_ _ _
    cases hph : s.phase <;> first | rfl | contradiction
  · exact hostEffect_congr rfl fun w hop => effectOf_of_not_usesFb (decodeHost_usesFb (hwin w hop)) _ _
  · have hfb : (hostEffect s.input s.beginTick).fb = none := by
      obtain hnone | ⟨a, v, hop, hin, -⟩ := hm.host.fb_cases
      · exact hnone
      · refine absurd ?_ (hwin _ hop)
        rwa [HostWord.addr_write]
    have hbefore : ({ s.beginTick with fb := m }.next sh c (hostEffect s.input s.beginTick)).fb = m :=
      congrArg (Option.getD · m) hfb
    exact (congrArg (fun x => { s.beginTick.next sh c (hostEffect s.input s.beginTick) with fb := x }) hbefore)

/-! ## The staged registers -/

theorem readReg_of_not_staged {r : HostReg} (h : r.isStaged = false) (s : State) (g : Stg) :
    { s with stg := g }.readReg r = s.readReg r := by
  cases r <;> first | rfl | exact absurd h (by decide)

theorem effectOf_of_not_usesStaged {i : Instr} (h : i.usesStaged = false) (s : State) (g : Stg) :
    effectOf i { s with stg := g } = effectOf i s := by
  cases i with
  | modeset | wrXres | wrYres | wrBpp | wrRefresh | wrPanelW | wrPanelH | wrNLines | wrNBits | wrFlags
  | wrBcmUnit | wrDimTicks | wrLatchHold | wrStopTimeout => cases h
  | rdReg r => exact congrArg (fun v => Except.ok ({ rdData := some v } : Effect)) (readReg_of_not_staged h s g)
  | _ => rfl

theorem decodeHost_usesStaged {p : Params} {w : HostWord} (hmodeset : w ≠ HostWord.write 0x00 3)
    (haddr : ¬ (0x20 ≤ w.addr.toNat ∧ w.addr.toNat ≤ 0x50)) : (decodeHost p w).usesStaged = false := by
  cases hrw : w.rw with
  | true =>
    rw [decodeHost_of_write p hrw, decodeWrite]
    split
    case h_1 hzero =>
      unfold decodeCommand
      split
      case h_3 hthree =>
        refine absurd ?_ hmodeset
        rw [HostWord.eq_write hrw, word_eq_of_toNat hzero, word_eq_of_toNat hthree]
        rfl
      all_goals rfl
    case h_18 => split <;> rfl
    all_goals first | rfl | omega
  | false =>
    rw [decodeHost_of_read p hrw, decodeRead]
    split
    case h_1 r hr =>
      have hoff : r.offset = w.addr := HostReg.offset_ofOffset hr
      rw [Instr.usesStaged, HostReg.isStaged, hoff]
      exact decide_eq_false haddr
    case h_2 => split <;> rfl

/-- An operation that does not use the staged registers does not write them. -/
theorem stg_of_not_usesStaged {i : Instr} {s : State} {e : Effect} (hformat : (encode i).1 = .host)
    (h : i.usesStaged = false) (he : effectOf i s = .ok e) : e.stg = none := by
  cases i with
  | modeset | wrXres | wrYres | wrBpp | wrRefresh | wrPanelW | wrPanelH | wrNLines | wrNBits | wrFlags
  | wrBcmUnit | wrDimTicks | wrLatchHold | wrStopTimeout => cases h
  | start =>
    cases he
    unfold effStart
    split <;> rfl
  | stop =>
    cases he
    unfold effStop
    split
    · rfl
    · split <;> rfl
  | fbWr a v =>
    cases he
    unfold effFbWr
    split <;> rfl
  | fbRd a =>
    cases he
    unfold effFbRd
    split <;> rfl
  | cmdReserved | wrStatus | wrIrqEn | wrBrightness | wrIgnored | rdReg | rdUnmapped => cases he; rfl
  | _ => cases hformat

/-- Settles O59. -/
theorem stagedRegistersActOnlyThroughModeset : Obligations.StagedRegistersActOnlyThroughModeset := by
  intro s g hrst hhost
  have huses : ∀ w, s.input.hostOp = some w → (decodeHost s.params w).usesStaged = false := fun w hop =>
    decodeHost_usesStaged (hhost w hop).1 (hhost w hop).2
  refine step_of_commutes (fun t => { t with stg := g }) hrst rfl rfl ?_ rfl ?_ ?_ fun sh c hm => ?_
  · refine effectOf_shifterOp_congr rfl rfl (effectOf_of_not_usesStaged ?_ _ _)
    cases s.beginTick.shPhase <;> rfl
  · refine effectOf_of_not_usesStaged ?_ _ _
    cases s.phase <;> rfl
  · exact hostEffect_congr rfl fun w hop => effectOf_of_not_usesStaged (huses w hop) _ _
  · have hstg : (hostEffect s.input s.beginTick).stg = none := by
      cases hop : s.input.hostOp with
      | none => rw [hostEffect_of_none _ hop]
      | some w =>
        obtain ⟨e, he, -⟩ := hostMove_of_hostOp (s := s.beginTick) hop
        rw [hostEffect_of_op hop he, stg_of_not_usesStaged (encode_decodeHost_format _ w) (huses w hop) he]
    have hbefore : ({ s.beginTick with stg := g }.next sh c (hostEffect s.input s.beginTick)).stg = g :=
      congrArg (Option.getD · g) hstg
    exact (congrArg (fun x => { s.beginTick.next sh c (hostEffect s.input s.beginTick) with stg := x }) hbefore)

/-! ## The counter -/

/-- A channel with its compare value moved. -/
def Channel.shift (d : Word) (c : Channel) : Channel := { c with cmp := c.cmp + d }

theorem chanMatches_shift (cnt d : Word) (c : Channel) : chanMatches (cnt + d) (c.shift d) = chanMatches cnt c := by
  have hcmp : cnt + d + 1 = c.cmp + d ↔ cnt + 1 = c.cmp := by
    rw [add_right_comm]
    exact add_left_inj d
  simp only [chanMatches, Channel.shift, hcmp]

theorem effectOf_shiftCnt {i : Instr} (h : i.usesCounter = false) (s : State) (d : Word) :
    effectOf i (s.shiftCnt d) = effectOf i s := by
  cases i with
  | tmrCount | tmrMatchOneshot | tmrMatchPeriodic => cases h
  | rdReg r => cases r <;> rfl
  | _ => rfl

theorem decodeHost_usesCounter (p : Params) (w : HostWord) : (decodeHost p w).usesCounter = false := by
  have hformat := encode_decodeHost_format p w
  cases hop : decodeHost p w with
  | tmrCount | tmrMatchOneshot | tmrMatchPeriodic =>
    rw [hop] at hformat
    cases hformat
  | _ => rfl

/-- A request with the compare value a match leaves moved. -/
def ChanReq.shift (d : Word) (r : ChanReq) : ChanReq := { r with hit := r.hit.map fun x => (x.1 + d, x.2) }

theorem oneshotReq_shift (cnt d : Word) (c : Channel) :
    oneshotReq (cnt + d) (c.shift d) = (oneshotReq cnt c).shift d := by
  cases hmatch : chanMatches cnt c with
  | true =>
    rw [oneshotReq_of_match hmatch, oneshotReq_of_match ((chanMatches_shift cnt d c).trans hmatch)]
    rfl
  | false =>
    rw [oneshotReq_of_no_match hmatch, oneshotReq_of_no_match ((chanMatches_shift cnt d c).trans hmatch)]
    rfl

theorem periodicReq_shift (s : State) (d : Word) : periodicReq (s.shiftCnt d) = (periodicReq s).shift d := by
  have hshift : chanMatches (s.shiftCnt d).cnt (s.shiftCnt d).tLine = chanMatches s.cnt s.tLine :=
    chanMatches_shift s.cnt d s.tLine
  cases hmatch : chanMatches s.cnt s.tLine with
  | true =>
    rw [periodicReq_of_match hmatch, periodicReq_of_match (hshift.trans hmatch)]
    simp [ChanReq.shift, State.shiftCnt, add_right_comm]
  | false =>
    rw [periodicReq_of_no_match hmatch, periodicReq_of_no_match (hshift.trans hmatch)]
    rfl

theorem settleChan_shift (cnt d : Word) (c : Channel) (r : ChanReq) :
    settleChan (cnt + d) (c.shift d) (r.shift d) = (settleChan cnt c r).shift d := by
  obtain ⟨clear, hit, disarm, start⟩ := r
  cases start with
  | some n => simp [settleChan, ChanReq.shift, Channel.shift, add_right_comm]
  | none =>
    cases disarm with
    | true => rfl
    | false => cases hit with
      | some x => rfl
      | none => cases clear <;> rfl

/-- The requests of the controller name no compare value. -/
theorem ChanReq.shift_join {a r : ChanReq} (h : r.hit = none) (d : Word) :
    (a.shift d).join r = (a.join r).shift d := by
  simp [ChanReq.join, ChanReq.shift, h]

theorem CtrlMove.hit_eq_none {s : State} {c : Effect} (hc : CtrlMove s c) :
    c.tBcm.hit = none ∧ c.tLine.hit = none ∧ c.tOn.hit = none := by
  cases hc <;> exact ⟨rfl, rfl, rfl⟩

theorem next_shiftCnt {s : State} {sh c ho : Effect} (hc : CtrlMove s c) (d : Word) :
    (s.shiftCnt d).next sh c ho = (s.next sh c ho).shiftCnt d := by
  obtain ⟨hbcm, hline, hon⟩ := hc.hit_eq_none
  have htBcm : ((s.shiftCnt d).next sh c ho).tBcm = (s.next sh c ho).tBcm.shift d := by
    rw [State.next_tBcm, State.next_tBcm, ← settleChan_shift, ← ChanReq.shift_join hbcm, ← oneshotReq_shift]
    rfl
  have htLine : ((s.shiftCnt d).next sh c ho).tLine = (s.next sh c ho).tLine.shift d := by
    rw [State.next_tLine, State.next_tLine, ← settleChan_shift, ← ChanReq.shift_join hline, ← periodicReq_shift]
    rfl
  have htOn : ((s.shiftCnt d).next sh c ho).tOn = (s.next sh c ho).tOn.shift d := by
    rw [State.next_tOn, State.next_tOn, ← settleChan_shift, ← ChanReq.shift_join hon, ← oneshotReq_shift]
    rfl
  have hcnt : ((s.shiftCnt d).next sh c ho).cnt = (s.next sh c ho).cnt + d := add_right_comm s.cnt d 1
  calc (s.shiftCnt d).next sh c ho
      = { s.next sh c ho with
          cnt := ((s.shiftCnt d).next sh c ho).cnt, tBcm := ((s.shiftCnt d).next sh c ho).tBcm
          tLine := ((s.shiftCnt d).next sh c ho).tLine, tOn := ((s.shiftCnt d).next sh c ho).tOn } := rfl
    _ = (s.next sh c ho).shiftCnt d := by
        rw [htBcm, htLine, htOn, hcnt]
        rfl

/-- Settles O46. -/
theorem counterIsRelative : Obligations.CounterIsRelative := by
  intro s d hrst
  refine step_of_commutes (State.shiftCnt d) hrst rfl rfl ?_ rfl ?_ ?_ fun sh c hm => next_shiftCnt hm.ctrl d
  · refine effectOf_shifterOp_congr rfl rfl (effectOf_shiftCnt ?_ _ _)
    cases s.beginTick.shPhase <;> rfl
  · refine effectOf_shiftCnt ?_ _ _
    cases s.phase <;> rfl
  · exact hostEffect_congr rfl fun w _ => effectOf_shiftCnt (decodeHost_usesCounter _ w) _ _

end Sys2Proof.Machine
end

section
/-! PROOFS. Runs without a reset: every tick answers and keeps the invariant, and a run is put together from
stretches in which one phase lasts. -/

namespace Sys2Proof.Machine

/-! ## Live states -/

/-- A state with the invariant and no reset to come. -/
structure Live (s : State) : Prop where
  inv : Inv s
  noReset : NoReset s

theorem NoReset.next {s : State} (h : NoReset s) (sh c ho : Effect) : NoReset (s.beginTick.next sh c ho) :=
  fun inp hin => h inp (List.mem_of_mem_tail hin)

/-- A tick that runs the controller's writes `c`. -/
theorem Live.moves {s : State} (hs : Live s) {c : Effect} (hc : effectOf s.phase.op s.beginTick = .ok c) :
    ∃ sh ho, Moves s sh c ho ∧ step s = .next (s.beginTick.next sh c ho) ∧ Live (s.beginTick.next sh c ho) := by
  obtain ⟨sh, hsh⟩ := effectOf_shifterOp_ok hs.inv.beginTick s.input
  obtain ⟨-, hmove⟩ := gather_hostOps s.input s.beginTick
  have hstep := step_of_effects hs.noReset.input hsh hc
  exact ⟨sh, _, ⟨shiftMove_of_effectOf hsh, ctrlMove_of_effectOf hc, hmove⟩, hstep,
    invariantKept _ _ hs.inv hstep, hs.noReset.next _ _ _⟩

/-- What a tick of a running machine makes of the controller's registers, the port and the one-shot channels, with
the controller's writes `c`. -/
structure Tick (s : State) (c : Effect) (t : State) : Prop where
  phase : t.phase = c.phase.getD s.phase
  cfg : t.cfg = s.cfg
  line : t.line = c.line.getD s.line
  bit : t.bit = c.bit.getD s.bit
  xferLine : t.xferLine = c.xferLine.getD s.xferLine
  dly : t.dly = c.dly.getD s.dly
  stopCnt : t.stopCnt = c.stopCnt.getD s.stopCnt
  stopReq : c.stopReq = none → s.stopReq = true → t.stopReq = true
  lat : t.port.lat = c.lat.getD s.port.lat
  oeN : t.port.oeN = c.oeN.getD s.port.oeN
  addr : t.port.addr = c.addr.getD s.port.addr
  cnt : t.cnt = s.cnt + 1
  tBcm : t.tBcm = settleChan s.cnt s.tBcm ((oneshotReq s.cnt s.tBcm).join c.tBcm)
  tOn : t.tOn = settleChan s.cnt s.tOn ((oneshotReq s.cnt s.tOn).join c.tOn)

/-- The host only ever asks for a stop (R88). -/
theorem HostMove.stopReq_cases {inp : TickIn} {s : State} {ho : Effect} (hho : HostMove inp s ho) :
    ho.stopReq = none ∨ ho.stopReq = some true ∧ inp.hostOp = some (HostWord.write 0x00 2) := by
  cases hho with
  | stop hop => exact .inr ⟨rfl, hop⟩
  | setting he => rw [← he]; exact .inl rfl
  | start | modeset | fbWrite => exact .inl rfl

theorem tick_of_moves {s : State} {sh c ho : Effect} (hrun : s.phase ≠ .idle) (hm : Moves s sh c ho) :
    Tick s c (s.beginTick.next sh c ho) where
  phase := next_phase_of_running (s := s.beginTick) hrun hm.host
  cfg := next_cfg_of_running (s := s.beginTick) hrun hm.host
  line := next_line_of_running (s := s.beginTick) hrun hm.host
  bit := next_bit_of_running (s := s.beginTick) hrun hm.host
  xferLine := rfl
  dly := rfl
  stopCnt := rfl
  stopReq := by
    intro hnone hreq
    rw [State.next_stopReq, hnone]
    obtain h | ⟨h, -⟩ := hm.host.stopReq_cases
    · rw [h]
      exact hreq
    · rw [h]
      rfl
  lat := rfl
  oeN := rfl
  addr := rfl
  cnt := rfl
  tBcm := rfl
  tOn := rfl

/-- One tick of a running machine. -/
theorem Live.tick {s : State} (hs : Live s) (hrun : s.phase ≠ .idle) {c : Effect}
    (hc : effectOf s.phase.op s.beginTick = .ok c) : ∃ t, step s = .next t ∧ Live t ∧ Tick s c t := by
  obtain ⟨sh, ho, hm, hstep, ht⟩ := hs.moves hc
  exact ⟨_, hstep, ht, tick_of_moves hrun hm⟩

/-! ## Stretches of a run -/

theorem run_add {a : Nat} {s t : State} (h : run a s = .next t) (b : Nat) : run (a + b) s = run b t := by
  induction a generalizing s with
  | zero =>
    cases h
    rw [Nat.zero_add]
  | succ a ih =>
    rw [Nat.add_right_comm]
    cases hstep : step s with
    | next u =>
      rw [run_succ hstep] at h ⊢
      exact ih h
    | fault f => simp only [run, hstep, reduceCtorEq] at h
    | refused r => simp only [run, hstep, reduceCtorEq] at h

/-- `n` ticks from `s` lead to `t`, and `P` holds before each of them. -/
def Lasts (P : State → Prop) (n : Nat) (s t : State) : Prop :=
  run n s = .next t ∧ ∀ j, j < n → ∃ u, run j s = .next u ∧ P u

section
variable {P : State → Prop} {s t u : State} {n : Nat}

theorem lasts_zero (s : State) : Lasts P 0 s s := ⟨rfl, fun _ hj => absurd hj (Nat.not_lt_zero _)⟩

theorem lasts_succ (hP : P s) (hstep : step s = .next t) (h : Lasts P n t u) : Lasts P (n + 1) s u := by
  obtain ⟨hrun, hbefore⟩ := h
  refine ⟨(run_succ hstep n).trans hrun, fun j hj => ?_⟩
  cases j with
  | zero => exact ⟨s, rfl, hP⟩
  | succ j =>
    obtain ⟨v, hv, hPv⟩ := hbefore j (Nat.lt_of_succ_lt_succ hj)
    exact ⟨v, (run_succ hstep j).trans hv, hPv⟩

theorem lasts_one (hP : P s) (hstep : step s = .next t) : Lasts P 1 s t := lasts_succ hP hstep (lasts_zero t)

theorem Lasts.imp {Q : State → Prop} (h : Lasts P n s t) (himp : ∀ v, P v → Q v) : Lasts Q n s t := by
  obtain ⟨hrun, hbefore⟩ := h
  refine ⟨hrun, fun j hj => ?_⟩
  obtain ⟨u, hu, hPu⟩ := hbefore j hj
  exact ⟨u, hu, himp u hPu⟩

/-- One more tick. -/
theorem Lasts.snoc (h : Lasts P n s t) (hP : P t) (hstep : step t = .next u) : Lasts P (n + 1) s u := by
  obtain ⟨hrun, hbefore⟩ := h
  refine ⟨(run_add hrun 1).trans (run_succ hstep 0), fun j hj => ?_⟩
  obtain rfl | hlt := Nat.eq_or_lt_of_le (Nat.le_of_lt_succ hj)
  · exact ⟨t, hrun, hP⟩
  · exact hbefore j hlt

theorem Lasts.run_eq (h : Lasts P n s t) {r : State} {a : Nat} (hr : run a r = .next s) :
    run (a + n) r = .next t := (run_add hr n).trans h.1

/-- A stretch as a part of a longer run. -/
theorem Lasts.during (h : Lasts P n s t) {r : State} {a : Nat} (hr : run a r = .next s) {j : Nat} (ha : a ≤ j)
    (hj : j < a + n) : ∃ u, run j r = .next u ∧ P u := by
  obtain ⟨i, rfl⟩ := Nat.exists_eq_add_of_le ha
  obtain ⟨u, hu, hPu⟩ := h.2 i (Nat.lt_of_add_lt_add_left hj)
  exact ⟨u, (run_add hr i).trans hu, hPu⟩

end

/-! ## One-shot channels -/

/-- Without a request a channel's event comes one tick nearer, and stays once it is there (46_timer.md R171). -/
theorem Channel.DueIn.tick_pred {cnt : Word} {ch : Channel} {n : Nat} (h : ch.DueIn cnt n) :
    (settleChan cnt ch ((oneshotReq cnt ch).join {})).DueIn (cnt + 1) (n - 1) := by
  rw [ChanReq.join_empty]
  cases n with
  | succ n => exact h.tick
  | zero =>
    change (settleChan cnt ch (oneshotReq cnt ch)).ev = true
    rw [settleChan_oneshot]
    split
    · rfl
    · exact h

theorem Channel.DueIn.ev_iff {cnt : Word} {ch : Channel} {n : Nat} (h : ch.DueIn cnt n) :
    ch.ev = true ↔ n = 0 := by
  cases n with
  | zero => exact iff_of_true h rfl
  | succ n =>
    obtain ⟨-, rfl⟩ := h
    exact iff_of_false Bool.false_ne_true (Nat.succ_ne_zero n)

/-- R173: a duration of 0 or 1 has its event at once, a longer one after its last tick. -/
theorem Channel.dueIn_start (cnt : Word) (ch : Channel) {d : Nat} (hd : d < 2 ^ 32) :
    (settleChan cnt ch ((oneshotReq cnt ch).join { start := some (duration d) })).DueIn (cnt + 1)
      (max d 1 - 1) := by
  by_cases hlong : 2 ≤ d
  · obtain ⟨n, rfl⟩ := Nat.exists_eq_add_of_le' hlong
    rw [show max (n + 2) 1 - 1 = n + 1 by omega]
    exact Channel.dueIn_started cnt ch hd
  · rw [show max d 1 - 1 = 0 by omega, settleChan_join_start _ _ _ (oneshotReq_start _ _)]
    have hshort : (duration d).toNat ≤ 1 := by
      rw [duration, BitVec.toNat_ofNat, Nat.mod_eq_of_lt hd]
      omega
    exact decide_eq_true hshort

/-- A channel with `d` ticks to go. -/
theorem Channel.dueIn_of_armed {cnt d : Word} {ch : Channel} (harm : ch.arm = true) (hev : ch.ev = false)
    (hcmp : ch.cmp = cnt + d) (hd : 1 ≤ d.toNat) : ch.DueIn cnt d.toNat := by
  obtain ⟨n, hn⟩ := Nat.exists_eq_add_of_le' hd
  rw [hn]
  refine ⟨hn ▸ d.isLt, ?_⟩
  obtain ⟨cmp, arm, ev⟩ := ch
  rw [← hn, BitVec.ofNat_toNat, BitVec.setWidth_eq, ← hcmp]
  cases harm
  cases hev
  rfl

end Sys2Proof.Machine
end

section
/-! PROOFS. Intervals and bounds: the one-shot channels (46_timer.md R171, R175) and the way from a stop request to
`IDLE` (45_vsync_controller.md R165). -/

namespace Sys2Proof.Machine

/-! ## The phases that wait for channel BCM -/

/-- A phase that waits for the event of channel BCM. -/
def Waiting (ph : Phase) (s : State) : Prop := Live s ∧ s.phase = ph ∧ s.tBcm.ev = false

theorem Live.wait_tick {s : State} (hs : Live s) {ph : Phase} (hwait : ph = .waitBit ∨ ph = .waitDim)
    (hph : s.phase = ph) (hev : s.tBcm.ev = false) :
    ∃ t, step s = .next t ∧ Live t ∧ Tick s { phase := some ph } t := by
  obtain rfl | rfl := hwait
  · refine hs.tick (hph ▸ by decide) ?_
    rw [hph]
    change Except.ok (effWaitBit s.beginTick) = _
    rw [effWaitBit, State.beginTick_tBcm, hev]
  · refine hs.tick (hph ▸ by decide) ?_
    rw [hph]
    change Except.ok (effWaitDim s.beginTick) = _
    rw [effWaitDim, State.beginTick_tBcm, hev]

/-- R131, R140: the wait lasts until the event is there. -/
theorem Live.wait {n : Nat} {s : State} (hs : Live s) {ph : Phase} (hwait : ph = .waitBit ∨ ph = .waitDim)
    (hph : s.phase = ph) (hdue : s.tBcm.DueIn s.cnt n) :
    ∃ t, Lasts (Waiting ph) n s t ∧ Live t ∧ t.phase = ph ∧ t.tBcm.ev = true ∧ t.cfg = s.cfg ∧ t.bit = s.bit := by
  induction n generalizing s with
  | zero => exact ⟨s, lasts_zero s, hs, hph, hdue, rfl, rfl⟩
  | succ n ih =>
    have hev : s.tBcm.ev = false := Bool.eq_false_of_not_eq_true fun h => by
      cases hdue.ev_iff.mp h
    obtain ⟨t, hstep, ht, hk⟩ := hs.wait_tick hwait hph hev
    have hdue' : t.tBcm.DueIn t.cnt n := by
      rw [hk.tBcm, hk.cnt]
      exact hdue.tick_pred
    obtain ⟨u, hlasts, hu, huph, huev, hucfg, hubit⟩ := ih ht hk.phase hdue'
    exact ⟨u, lasts_succ ⟨hs, hph, hev⟩ hstep hlasts, hu, huph, huev, hucfg.trans hk.cfg, hubit.trans hk.bit⟩

/-- In the BCM regime channel BCM is armed exactly until its event. -/
theorem Live.bcm_arm {s : State} (hs : Live s) (hwait : s.phase = .waitBit ∨ s.phase = .waitDim) :
    s.tBcm.arm = !s.tBcm.ev := by
  have hreg : s.cfg.regime = .bcm := hs.inv.bcm_of_phase (by obtain h | h := hwait <;> rw [h] <;> rfl)
  have hrest : s.phase.resting = false := by obtain h | h := hwait <;> rw [h] <;> rfl
  obtain ⟨-, -, harm⟩ := hs.inv.bcm_timer hrest hreg
  exact harm

theorem waitingInterval_exact {s : State} {d : Word} (hs : Live s)
    (hwait : s.phase = .waitBit ∨ s.phase = .waitDim) (harm : s.tBcm.arm = true) (hcmp : s.tBcm.cmp = s.cnt + d)
    (hd : 1 ≤ d.toNat) {j : Nat} (hj : j ≤ d.toNat) :
    ∃ t, run j s = .next t ∧ t.phase = s.phase ∧ (t.tBcm.ev = true ↔ j = d.toNat) ∧
      (t.tBcm.arm = true ↔ j < d.toNat) := by
  have hev : s.tBcm.ev = false := by
    have := hs.bcm_arm hwait
    rw [harm] at this
    simpa using this.symm
  obtain ⟨t, ⟨hrun, hbefore⟩, ht, hph, htev, -, -⟩ :=
    hs.wait hwait rfl (Channel.dueIn_of_armed harm hev hcmp hd)
  obtain rfl | hlt := Nat.eq_or_lt_of_le hj
  · refine ⟨t, hrun, hph, by simp [htev], ?_⟩
    rw [ht.bcm_arm (hph ▸ hwait), htev]
    simp
  · obtain ⟨u, hu, hlive, huph, huev⟩ := hbefore j hlt
    refine ⟨u, hu, huph, ?_, ?_⟩
    · rw [huev]
      simp [hlt.ne]
    · rw [hlive.bcm_arm (huph ▸ hwait), huev]
      simp [hlt]

/-! ## One tick of a one-shot channel -/

/-- A request that neither starts nor disarms the channel leaves its interval alone. -/
theorem settleChan_of_dueIn {cnt : Word} {ch : Channel} {n : Nat} {r : ChanReq} (hstart : r.start = none)
    (hdisarm : r.disarm = false) (hhit : r.hit = none) (h : ch.DueIn cnt (n + 1)) :
    settleChan cnt ch ((oneshotReq cnt ch).join r) = if n = 0 then { ch with arm := false, ev := true } else ch := by
  obtain ⟨hn, rfl⟩ := h
  have hmatch := chanMatches_armed cnt hn
  obtain ⟨clear, hit, disarm, start⟩ := r
  cases hstart
  cases hdisarm
  cases hhit
  by_cases hzero : n = 0
  · rw [if_pos hzero, oneshotReq_of_match (hmatch.trans (decide_eq_true hzero))]
    rfl
  · rw [if_neg hzero, oneshotReq_of_no_match (hmatch.trans (decide_eq_false hzero)), ChanReq.empty_join]
    cases clear <;> rfl

/-- The request of the controller on a one-shot channel. -/
def Effect.oneShot (e : Effect) : OneShot → ChanReq
  | .bcm => e.tBcm
  | .on => e.tOn

/-- Where the controller neither starts nor disarms a live one-shot channel (R173, R174). -/
theorem CtrlMove.oneShot_untouched {s : State} {c : Effect} (hs : Inv s) (hc : CtrlMove s c) (one : OneShot)
    (hdim : s.phase ≠ .startDim) (hbit : s.phase ≠ .startBit) (hon : s.phase ≠ .lLatOn)
    (hstop : ¬ (s.phase = .lIdle ∧ s.stopReq = true)) (harm : (s.chan (oneShotChan one)).arm = true) :
    (c.oneShot one).start = none ∧ (c.oneShot one).disarm = false ∧ (c.oneShot one).hit = none := by
  cases hc with
  | startDim hph => exact absurd hph hdim
  | startBit hph => exact absurd hph hbit
  | lLatOn hph => exact absurd hph hon
  | lStopReq hph hreq => exact absurd ⟨hph, hreq⟩ hstop
  | prime_bcm hph =>
    obtain ⟨⟨hbcm, -⟩, -, hquiet, -⟩ := hs.quiet (.inl (hph ▸ rfl))
    cases one with
    | bcm => exact absurd (hbcm.symm.trans harm) (by decide)
    | on => exact absurd (hquiet.symm.trans harm) (by decide)
  | _ => cases one <;> exact ⟨rfl, rfl, rfl⟩

/-- A live one-shot channel has not fired yet (R178). -/
theorem Inv.oneShot_waiting {s : State} (hs : Inv s) (one : OneShot)
    (harm : (s.chan (oneShotChan one)).arm = true) : (s.chan (oneShotChan one)).ev = false := by
  cases one with
  | on => exact Bool.eq_false_of_not_eq_true fun hev => hs.on_timer ⟨harm, hev⟩
  | bcm =>
    change s.tBcm.arm = true at harm
    change s.tBcm.ev = false
    cases hrest : s.phase.resting with
    | true =>
      obtain ⟨⟨hoff, -⟩, -⟩ := hs.quiet (.inl hrest)
      exact absurd (hoff.symm.trans harm) (by decide)
    | false => cases hreg : s.cfg.regime with
      | line =>
        obtain ⟨hoff, -⟩ := hs.line_timer hrest hreg
        exact absurd (hoff.symm.trans harm) (by decide)
      | bcm =>
        obtain ⟨-, -, hone⟩ := hs.bcm_timer hrest hreg
        rw [harm] at hone
        simpa using hone.symm

theorem next_oneShot (s : State) (sh c ho : Effect) (one : OneShot) :
    (s.next sh c ho).chan (oneShotChan one) = settleChan s.cnt (s.chan (oneShotChan one))
      ((oneshotReq s.cnt (s.chan (oneShotChan one))).join (c.oneShot one)) := by
  cases one <;> rfl

/-- Settles O45. -/
theorem oneShotIntervalIsExact : Obligations.OneShotIntervalIsExact := by
  refine ⟨fun s d hs hrst hwait harm hcmp hd j hj => waitingInterval_exact ⟨hs, hrst⟩ hwait harm hcmp hd hj, ?_⟩
  intro s one d hs hrst hdim hbit hon hstop harm hcmp hd
  obtain ⟨t, hstep⟩ := tickIsTotal s hs
  obtain ⟨sh, c, ho, hm, rfl⟩ := step_eq_next_cases hrst hstep
  obtain ⟨hstart, hdisarm, hhit⟩ := hm.ctrl.oneShot_untouched hs.beginTick one hdim hbit hon hstop harm
  have hdue := Channel.dueIn_of_armed harm (hs.oneShot_waiting one harm) hcmp hd
  obtain ⟨n, hn⟩ := Nat.exists_eq_add_of_le' hd
  rw [hn] at hdue
  have hnext : (s.beginTick.next sh c ho).chan (oneShotChan one) =
      if n = 0 then { s.chan (oneShotChan one) with arm := false, ev := true } else s.chan (oneShotChan one) :=
    (next_oneShot s.beginTick sh c ho one).trans (settleChan_of_dueIn hstart hdisarm hhit hdue)
  have hone : d = 1 ↔ n = 0 := by
    rw [← BitVec.toNat_inj, hn]
    exact Nat.succ_inj
  have hkeep : (s.chan (oneShotChan one)).cmp = s.cnt + 1 + (d - 1) := by
    rw [hcmp]
    ring
  refine ⟨_, hstep, ?_, ?_⟩
  · rw [← State.next, hnext]
    split <;> exact hkeep
  · rw [← State.next, hnext]
    by_cases hzero : n = 0
    · rw [if_pos (hone.mpr hzero), if_pos hzero]
      exact ⟨rfl, rfl⟩
    · rw [if_neg (hone.not.mpr hzero), if_neg hzero]
      exact ⟨harm, hs.oneShot_waiting one harm⟩

/-! ## The stop bound -/

/-- A stop is requested or under way. -/
def State.stops (s : State) : Prop := s.stopReq = true ∨ s.phase.stopping = true

/-- The ticks that are left to `IDLE` at most, by the phase a stop finds (R154, R158 to R165). -/
def State.stopBound (s : State) : Nat :=
  match s.phase with
  | .lStopSafe => 1
  | .lStopWait => s.stopCnt.toNat + 2
  | .lIdle => s.cfg.stopTimeout + 3
  | .lUnblank | .vsync => s.cfg.stopTimeout + 4
  | .lSetLine => s.cfg.stopTimeout + 5
  | .lLatOff => s.cfg.stopTimeout + 6
  | .lLatHold => s.dly.toNat + s.cfg.stopTimeout + 7
  | .lLatOn => s.cfg.latchHold + s.cfg.stopTimeout + 8
  | .lBlank => s.cfg.latchHold + s.cfg.stopTimeout + 9
  | _ => 0

theorem Phase.stopping_iff (ph : Phase) : ph.stopping = true ↔ ph = .lStopWait ∨ ph = .lStopSafe := by
  cases ph <;> decide

theorem Inv.line_of_stops {s : State} (hs : Inv s) (h : s.stops) :
    s.cfg.regime = .line ∧ s.phase.resting = false := by
  obtain hreq | hstop := h
  · obtain ⟨hreg, hrest, -⟩ := hs.stop_pending hreq
    exact ⟨hreg, hrest⟩
  · obtain hph | hph := (Phase.stopping_iff s.phase).mp hstop <;> exact ⟨hs.line_of_phase (hph ▸ rfl), hph ▸ rfl⟩

theorem State.stopBound_le {s : State} (hs : Inv s) :
    s.stopBound ≤ s.cfg.latchHold + s.cfg.stopTimeout + 9 := by
  have hdly := hs.dly_le
  have hcnt := hs.stopCnt_le
  cases hph : s.phase
  case lLatHold =>
    have := hdly (.inr hph)
    simp only [stopBound, hph]
    omega
  case lStopWait =>
    have := hcnt hph
    simp only [stopBound, hph]
    omega
  all_goals
    simp only [stopBound, hph]
    omega

/-- Each tick of a stop brings it nearer to `IDLE`. -/
theorem Tick.stop_progress {s t : State} {c : Effect} (hs : Inv s) (hstop : s.stops) (hk : Tick s c t)
    (hc : CtrlMove s.beginTick c) :
    s.phase = .lStopSafe ∧ t.phase = .idle ∨ t.stops ∧ t.stopBound < s.stopBound := by
  obtain ⟨hreg, hrest⟩ := hs.line_of_stops hstop
  have hnotBcm : s.phase.bcmOnly = true → False := fun h => ne_line_of_bcm (hs.bcm_of_phase h) hreg
  have hpending : s.phase.stopping = false → s.stopReq = true := fun h =>
    hstop.resolve_right (by simp [h])
  have hkeep : c.stopReq = none → s.phase.stopping = false → t.stops := fun h h' =>
    .inl (hk.stopReq h (hpending h'))
  have hphase := hk.phase
  have hcfg := hk.cfg
  have hdly := hk.dly
  have hcnt := hk.stopCnt
  obtain ⟨-, -, -, -, -, -, ⟨-, -, -, hhold, htimeout, -⟩, -⟩ := hs.legal
  clear hs
  cases hc with
  | lStopSafe hph => exact .inl ⟨hph, hphase⟩
  | lStopReq hph =>
    change t.phase = .lStopWait at hphase
    change s.phase = .lIdle at hph
    change t.stopCnt = BitVec.ofNat 32 s.cfg.stopTimeout at hcnt
    refine .inr ⟨.inr (hphase ▸ rfl), ?_⟩
    simp only [State.stopBound, hph, hphase, hcnt, BitVec.toNat_ofNat, Nat.mod_eq_of_lt htimeout]
    omega
  | lStopWait_idle hph | lStopWait_timeout hph =>
    change t.phase = .lStopSafe at hphase
    change s.phase = .lStopWait at hph
    refine .inr ⟨.inr (hphase ▸ rfl), ?_⟩
    simp [State.stopBound, hph, hphase]
  | lStopWait_more hph _ hmore =>
    change t.phase = .lStopWait at hphase
    change s.phase = .lStopWait at hph
    change t.stopCnt = s.stopCnt - 1 at hcnt
    change s.stopCnt ≠ 0 at hmore
    have hpos : 0 < s.stopCnt.toNat := Nat.pos_of_ne_zero fun h => hmore (BitVec.eq_of_toNat_eq h)
    refine .inr ⟨.inr (hphase ▸ rfl), ?_⟩
    simp only [State.stopBound, hph, hphase, hcnt, toNat_sub_one hmore]
    omega
  | vsync_line hph | lLatHold_end hph | lLatOff hph | lSetLine hph | lUnblank_dark hph | lUnblank_lit hph =>
    refine .inr ⟨hkeep rfl (show s.phase.stopping = false from hph ▸ rfl), ?_⟩
    simp only [State.beginTick_phase] at hph
    simp only [Option.getD_some] at hphase
    simp only [State.stopBound, hph, hphase, hcfg]
    omega
  | lBlank hph =>
    change t.phase = .lLatOn at hphase
    change s.phase = .lBlank at hph
    refine .inr ⟨hkeep rfl (hph ▸ rfl), ?_⟩
    simp only [State.stopBound, hph, hphase, hcfg]
    omega
  | lLatOn hph =>
    change t.phase = .lLatHold at hphase
    change s.phase = .lLatOn at hph
    change t.dly = BitVec.ofNat 16 s.cfg.latchHold at hdly
    refine .inr ⟨hkeep rfl (hph ▸ rfl), ?_⟩
    simp only [State.stopBound, hph, hphase, hcfg, hdly, BitVec.toNat_ofNat, Nat.mod_eq_of_lt hhold]
    omega
  | lLatHold_more hph hmore =>
    change t.phase = .lLatHold at hphase
    change s.phase = .lLatHold at hph
    change t.dly = s.dly - 1 at hdly
    change s.dly ≠ 0 at hmore
    have hpos : 0 < s.dly.toNat := Nat.pos_of_ne_zero fun h => hmore (BitVec.eq_of_toNat_eq h)
    refine .inr ⟨hkeep rfl (hph ▸ rfl), ?_⟩
    simp only [State.stopBound, hph, hphase, hcfg, hdly, toNat_sub_one hmore]
    omega
  | lDone hph hno | onExpire hph hno | lineTick_start hph hno | lineTick_skip hph hno | lNop hph hno =>
    exact absurd ((hpending (show s.phase.stopping = false from hph ▸ rfl)).symm.trans hno) (by decide)
  | vsync_bcm _ _ hbcm => exact absurd hreg (ne_line_of_bcm hbcm)
  | idle hph | prime_bcm hph | prime_line hph =>
    exact absurd (hrest.symm.trans (congrArg Phase.resting hph)) (by decide)
  | _ hph => exact (hnotBcm (show s.phase.bcmOnly = true from hph ▸ rfl)).elim

/-- From a stop under way the machine reaches `IDLE` within its bound. -/
theorem Live.reaches_idle {n : Nat} {s : State} (hs : Live s) (hstop : s.stops) (hn : s.stopBound ≤ n) :
    ∃ m t, m ≤ n ∧ run m s = .next t ∧ Live t ∧ t.phase = .idle := by
  have hrun : s.phase ≠ .idle := fun h => by
    obtain ⟨-, hrest⟩ := hs.inv.line_of_stops hstop
    rw [h] at hrest
    cases hrest
  obtain ⟨c, hc⟩ := effectOf_phaseOp_ok hs.inv.beginTick
  obtain ⟨t, hstep, ht, hk⟩ := hs.tick hrun hc
  obtain ⟨hph, hidle⟩ | ⟨hstop', hless⟩ := hk.stop_progress hs.inv hstop (ctrlMove_of_effectOf hc)
  · have hone : s.stopBound = 1 := by rw [State.stopBound, hph]
    exact ⟨1, t, hone ▸ hn, run_succ hstep 0, ht, hidle⟩
  · cases n with
    | zero => omega
    | succ n =>
      obtain ⟨m, u, hm, hrunm, hu, hidle⟩ := ht.reaches_idle hstop' (n := n) (by omega)
      exact ⟨m + 1, u, Nat.succ_le_succ hm, (run_succ hstep m).trans hrunm, hu, hidle⟩

/-- Settles O40. -/
theorem stopReachesIdle : Obligations.StopReachesIdle := by
  intro s hs hrst hreq
  obtain ⟨n, t, hn, hrun, ht, hidle⟩ :=
    Live.reaches_idle ⟨hs, hrst⟩ (.inl hreq) (State.stopBound_le hs)
  exact ⟨n, t, hn, hrun, hidle, ht.inv.port_of_resting (hidle ▸ rfl)⟩

end Sys2Proof.Machine
end

section
/-! PROOFS. The latch sequence of the LINE regime (45_vsync_controller.md R158 to R163, R168): one stretch for each of
its phases, with the on-time running beside it. -/

namespace Sys2Proof.Machine

/-- A live state in a phase. -/
def InPhase (ph : Phase) (s : State) : Prop := Live s ∧ s.phase = ph

/-- The sequence in its phase `ph`, for a row and under a configuration, with `n` ticks to the end of the on-time. -/
structure Latching (c : Cfg) (line : Index3) (ph : Phase) (n : Nat) (s : State) : Prop where
  live : Live s
  phase : s.phase = ph
  cfg : s.cfg = c
  xferLine : s.xferLine = line
  due : s.tOn.DueIn s.cnt n

section
variable {c : Cfg} {line : Index3} {ph ph' : Phase} {n : Nat} {s : State}

theorem Latching.inPhase (h : Latching c line ph n s) : InPhase ph s := ⟨h.live, h.phase⟩

/-- A tick of the sequence that leaves channel ON alone. -/
theorem Latching.tick (h : Latching c line ph n s) (hrun : ph ≠ .idle) {e : Effect}
    (he : effectOf ph.op s.beginTick = .ok e) (hph : e.phase = some ph') (hline : e.xferLine = none)
    (hon : e.tOn = {}) : ∃ t, step s = .next t ∧ Latching c line ph' (n - 1) t ∧ Tick s e t := by
  obtain ⟨t, hstep, ht, hk⟩ := h.live.tick (h.phase ▸ hrun) (h.phase ▸ he)
  refine ⟨t, hstep, ⟨ht, ?_, hk.cfg.trans h.cfg, ?_, ?_⟩, hk⟩
  · rw [hk.phase, hph]
    rfl
  · rw [hk.xferLine, hline]
    exact h.xferLine
  · rw [hk.tOn, hk.cnt, hon]
    exact h.due.tick_pred

/-- R160: the latch is held for `dly + 1` ticks. -/
theorem Latching.hold {d : Nat} (h : Latching c line .lLatHold n s) (hdly : s.dly.toNat = d) :
    ∃ t, Lasts (InPhase .lLatHold) (d + 1) s t ∧ Latching c line .lLatOff (n - (d + 1)) t := by
  induction d generalizing s n with
  | zero =>
    have hzero : s.dly = 0 := BitVec.eq_of_toNat_eq hdly
    have he : effectOf Phase.lLatHold.op s.beginTick = .ok { phase := some .lLatOff } := by
      change Except.ok (effLLatHold s.beginTick) = _
      rw [effLLatHold, State.beginTick_dly, if_pos hzero]
    obtain ⟨t, hstep, ht, -⟩ := h.tick (by decide) he rfl rfl rfl
    exact ⟨t, lasts_one h.inPhase hstep, ht⟩
  | succ d ih =>
    have hmore : s.dly ≠ 0 := fun h => by simp [h] at hdly
    have he : effectOf Phase.lLatHold.op s.beginTick = .ok { dly := some (s.dly - 1), phase := some .lLatHold } := by
      change Except.ok (effLLatHold s.beginTick) = _
      rw [effLLatHold, State.beginTick_dly, if_neg hmore]
    obtain ⟨t, hstep, ht, hk⟩ := h.tick (by decide) he rfl rfl rfl
    have hdly' : t.dly.toNat = d := by
      rw [hk.dly, Option.getD_some, toNat_sub_one hmore, hdly]
      rfl
    obtain ⟨u, hlasts, hu⟩ := ih ht hdly'
    rw [Nat.sub_sub, Nat.add_comm 1] at hu
    exact ⟨u, lasts_succ h.inPhase hstep hlasts, hu⟩

end

/-- R158, R159: from the completion to the tick that starts the on-time. -/
theorem Live.begin_latch {s : State} (hs : Live s) (hph : s.phase = .lIdle) (hreq : s.stopReq = false)
    (hdone : s.evDone = true) :
    ∃ t u, step s = .next t ∧ InPhase .lBlank t ∧ step t = .next u ∧ InPhase .lLatOn u ∧ u.cfg = s.cfg ∧
      u.xferLine = s.xferLine := by
  have he : effectOf s.phase.op s.beginTick = .ok { doneClear := true, phase := some .lBlank } := by
    rw [hph]
    change Except.ok (effLIdle s.beginTick) = _
    rw [effLIdle, State.beginTick_stopReq, State.beginTick_evDone, hreq, hdone]
    rfl
  obtain ⟨t, hstep, ht, hk⟩ := hs.tick (hph ▸ by decide) he
  have htph : t.phase = .lBlank := hk.phase
  obtain ⟨u, hstep', hu, hk'⟩ := ht.tick (c := effLBlank) (htph ▸ by decide) (htph ▸ rfl)
  exact ⟨t, u, hstep, ⟨ht, htph⟩, hstep', ⟨hu, hk'.phase⟩, hk'.cfg.trans hk.cfg, hk'.xferLine.trans hk.xferLine⟩

/-- R159: the tick of `L_LAT_ON` is the first of the on-time. -/
theorem InPhase.latOn {u : State} (hu : InPhase .lLatOn u) :
    ∃ t, step u = .next t ∧ Latching u.cfg u.xferLine .lLatHold (max u.onTime 1 - 1) t ∧
      t.dly.toNat = u.cfg.latchHold := by
  obtain ⟨hlive, hph⟩ := hu
  obtain ⟨t, hstep, ht, hk⟩ := hlive.tick (c := effLLatOn u.beginTick) (hph ▸ by decide) (hph ▸ rfl)
  obtain ⟨-, -, -, -, -, -, ⟨-, -, -, hhold, -⟩, -⟩ := hlive.inv.legal
  have htime : u.onTime < 2 ^ 32 := u.onTime_le.trans_lt (hlive.inv.legal.linePeriod_lt hlive.inv.params_legal)
  refine ⟨t, hstep, ⟨ht, hk.phase, hk.cfg, hk.xferLine, ?_⟩, ?_⟩
  · rw [hk.tOn, hk.cnt]
    exact Channel.dueIn_start u.cnt u.tOn htime
  · rw [hk.dly]
    exact Nat.mod_eq_of_lt hhold

/-- R161 to R163: from the end of the hold to the first port value that can be lit. -/
theorem Latching.finish {c : Cfg} {line : Index3} {n : Nat} {s : State} (h : Latching c line .lLatOff n s) :
    ∃ t u v, step s = .next t ∧ InPhase .lSetLine t ∧ step t = .next u ∧ InPhase .lUnblank u ∧
      step u = .next v ∧ InPhase .lIdle v ∧ v.port.addr = line ∧ (v.port.oeN = false ↔ 2 < n) := by
  obtain ⟨t, hstep, ht, -⟩ := h.tick (e := effLLatOff) (by decide) rfl rfl rfl rfl
  have hset : effectOf Phase.lSetLine.op t.beginTick =
      .ok { addr := some t.xferLine, phase := some .lUnblank } := by
    change Except.ok (effLSetLine t.beginTick) = _
    rw [effLSetLine, effLineSelect, lineTable_eq]
    rfl
  obtain ⟨u, hstep', hu, hk⟩ := ht.tick (by decide) hset rfl rfl rfl
  have haddr : u.port.addr = line := hk.addr.trans ht.xferLine
  have hdark : u.port.oeN = true := hu.live.inv.oeN_of_dark (hu.phase ▸ rfl)
  have hlong : u.tOn.ev = false ↔ 2 < n := by
    rw [← Bool.not_eq_true, hu.due.ev_iff]
    omega
  have hunblank : effectOf u.phase.op u.beginTick = .ok (effLUnblank u.beginTick) := hu.phase ▸ rfl
  rw [effLUnblank, State.beginTick_tOn] at hunblank
  cases hev : u.tOn.ev with
  | false =>
    rw [hev] at hunblank
    obtain ⟨v, hstep'', hv, hk'⟩ := hu.live.tick (hu.phase ▸ by decide) hunblank
    exact ⟨t, u, v, hstep, ht.inPhase, hstep', hu.inPhase, hstep'', ⟨hv, hk'.phase⟩, hk'.addr.trans haddr,
      iff_of_true hk'.oeN (hlong.mp hev)⟩
  | true =>
    rw [hev] at hunblank
    obtain ⟨v, hstep'', hv, hk'⟩ := hu.live.tick (hu.phase ▸ by decide) hunblank
    refine ⟨t, u, v, hstep, ht.inPhase, hstep', hu.inPhase, hstep'', ⟨hv, hk'.phase⟩, hk'.addr.trans haddr, ?_⟩
    rw [hk'.oeN, ← hlong, hev]
    exact iff_of_false (fun h => Bool.false_ne_true (h.symm.trans hdark)) (by decide)

/-- R168: the stretches of the sequence, end to end. -/
theorem Live.latch_schedule {s : State} (hs : Live s) (hph : s.phase = .lIdle) (hreq : s.stopReq = false)
    (hdone : s.evDone = true) :
    (∀ j, j ≤ s.cfg.latchHold + 7 → ∃ t, run j s = .next t ∧ InPhase (s.cfg.latchPhase j) t) ∧
      ∃ u t, run 2 s = .next u ∧ run (s.cfg.latchHold + 7) s = .next t ∧ t.port.addr = s.xferLine ∧
        (t.port.oeN = false ↔ s.cfg.latchHold + 4 < u.onTime) := by
  obtain ⟨s₁, s₂, hstep₀, h₁, hstep₁, h₂, hcfg, hline⟩ := hs.begin_latch hph hreq hdone
  obtain ⟨s₃, hstep₂, h₃, hdly⟩ := h₂.latOn
  obtain ⟨s₄, hhold, h₄⟩ := h₃.hold hdly
  obtain ⟨s₅, s₆, s₇, hstep₄, h₅, hstep₅, h₆, hstep₆, h₇, haddr, hlit⟩ := h₄.finish
  rw [hcfg] at hhold hlit
  have hend : Lasts (InPhase .lLatOff) 1 s₄ s₅ := lasts_one h₄.inPhase hstep₄
  have hset : Lasts (InPhase .lSetLine) 1 s₅ s₆ := lasts_one h₅ hstep₅
  have hunblank : Lasts (InPhase .lUnblank) 1 s₆ s₇ := lasts_one h₆ hstep₆
  have hrun₂ : run 2 s = .next s₂ := by rw [run_succ hstep₀, run_succ hstep₁, run]
  have hrun₃ : run 3 s = .next s₃ := (lasts_one (P := InPhase .lLatOn) h₂ hstep₂).run_eq hrun₂
  have hrun₄ := hhold.run_eq hrun₃
  have hrun₅ := hend.run_eq hrun₄
  have hrun₆ := hset.run_eq hrun₅
  have hrun₇ : run (s.cfg.latchHold + 7) s = .next s₇ := by
    rw [← hunblank.run_eq hrun₆]
    congr 1
    omega
  refine ⟨fun j hj => ?_, s₂, s₇, hrun₂, hrun₇, haddr.trans hline, hlit.trans (by omega)⟩
  simp only [Cfg.latchPhase]
  split_ifs with h0 h1 h2 h3 h4 h5 h6
  · exact ⟨s, h0 ▸ rfl, hs, hph⟩
  · exact ⟨s₁, h1 ▸ run_succ hstep₀ 0, h₁⟩
  · exact ⟨s₂, h2 ▸ hrun₂, h₂⟩
  · exact hhold.during hrun₃ (by omega) (by omega)
  · exact hend.during hrun₄ (by omega) (by omega)
  · exact hset.during hrun₅ (by omega) (by omega)
  · exact hunblank.during hrun₆ (by omega) (by omega)
  · obtain rfl : j = s.cfg.latchHold + 7 := by omega
    exact ⟨s₇, hrun₇, h₇⟩

theorem Cfg.dark_latchPhase (c : Cfg) {j : Nat} (hlo : 2 ≤ j) (hhi : j ≤ c.latchHold + 6) :
    (c.latchPhase j).dark = true := by
  simp only [Cfg.latchPhase]
  split_ifs <;> first | omega | rfl

theorem Cfg.latchPhase_end (c : Cfg) : c.latchPhase (c.latchHold + 7) = .lIdle := by
  simp only [Cfg.latchPhase]
  split_ifs <;> first | omega | rfl

/-- Settles O39. -/
theorem lineLatchSchedule : Obligations.LineLatchSchedule := by
  intro s hs hrst hph hreq hdone
  obtain ⟨hphase, u, t, hrun₂, hrun, haddr, hlit⟩ := Live.latch_schedule ⟨hs, hrst⟩ hph hreq hdone
  refine ⟨fun j hj => ?_, u, t, hrun₂, hrun, haddr, ?_, hlit⟩
  · obtain ⟨v, hv, hlive, hvph⟩ := hphase j hj
    exact ⟨v, hv, hvph, fun hlo hhi => hlive.inv.oeN_of_dark (hvph ▸ s.cfg.dark_latchPhase hlo hhi)⟩
  · obtain ⟨v, hv, hlive, hvph⟩ := hphase _ le_rfl
    obtain rfl : t = v := Host.Outcome.next.inj (hrun.symm.trans hv)
    have hidle : t.phase.latched = false := by
      rw [hvph, Cfg.latchPhase_end]
      rfl
    exact Bool.eq_false_of_not_eq_true fun hlat =>
      Bool.false_ne_true (hidle.symm.trans (hlive.inv.lat_iff.mp hlat))

end Sys2Proof.Machine
end

section
/-! PROOFS. A transfer, pulse by pulse (42_shifter.md R112 to R118): which pulse of the row the shifter is at, how many
of its ticks are left, and what the panel has received. -/

namespace Sys2Proof.Machine

/-! ## The pulses of a row -/

/-- The pulse of the row a byte's bit makes; in RGB format a byte makes one. -/
def Cfg.pulse (c : Cfg) (idx bit : Nat) : Nat :=
  match c.bpp with
  | .rgb => idx
  | .mono => 8 * idx + (7 - bit)

/-- The pulse the shifter is at. -/
def State.pulse (s : State) : Nat := s.cfg.pulse s.shIdx.toNat s.shBit.toNat

theorem Cfg.pulse_lt {c : Cfg} {idx : Nat} (h : idx < c.rowLen) (bit : Nat) : c.pulse idx bit < c.rowClocks := by
  unfold Cfg.pulse Cfg.rowClocks
  cases c.bpp with
  | rgb => exact h
  | mono => simp only; omega

/-- R114: the next bit of a byte. -/
theorem Cfg.pulse_next_bit {c : Cfg} (hbpp : c.bpp = .mono) (idx : Nat) {bit : Nat} (hpos : 0 < bit) (hbit : bit < 8) :
    c.pulse idx (bit - 1) = c.pulse idx bit + 1 := by
  simp only [Cfg.pulse, hbpp]
  omega

/-- R114: the first bit of the next byte. -/
theorem Cfg.pulse_next_byte {c : Cfg} {bit : Nat} (hlast : c.bpp = .mono → bit = 0) (idx : Nat) :
    c.pulse (idx + 1) 7 = c.pulse idx bit + 1 := by
  unfold Cfg.pulse
  cases hbpp : c.bpp with
  | rgb => rfl
  | mono => simp only [hlast hbpp]; omega

/-- R114: the last bit of the last byte is the last pulse. -/
theorem Cfg.pulse_end {c : Cfg} {bit idx : Nat} (hlast : c.bpp = .mono → bit = 0) (hlt : idx < c.rowLen)
    (hend : ¬ idx + 1 < c.rowLen) : c.pulse idx bit + 1 = c.rowClocks := by
  unfold Cfg.pulse Cfg.rowClocks
  cases hbpp : c.bpp with
  | rgb => simp only; omega
  | mono => simp only [hlast hbpp]; omega

/-- The ticks a transfer still takes, those held by a stall apart: three for each pulse, and one to end it. -/
def State.ticksLeft (s : State) : Nat :=
  match s.shPhase with
  | .idle => 0
  | .data => 3 * (s.cfg.rowClocks - s.pulse) + 1
  | .clkhi => 3 * (s.cfg.rowClocks - s.pulse)
  | .clklo => 3 * (s.cfg.rowClocks - s.pulse) - 1
  | .exit => 1

/-- R118: a transfer that begins has all its ticks before it. -/
theorem ticksLeft_of_begins {s : State} (hc : s.cfg.Legal s.params) (hsh : s.shPhase = .data) (hidx : s.shIdx = 0)
    (hbit : s.shBit = 7) : s.ticksLeft = s.cfg.xferTicks := by
  obtain ⟨-, -, -, -, -, -, -, ⟨hticks, -⟩⟩ := hc
  rw [State.ticksLeft, hsh, hticks]
  have hidx' : s.shIdx.toNat = 0 := congrArg BitVec.toNat hidx
  have hbit' : s.shBit.toNat = 7 := congrArg BitVec.toNat hbit
  simp only [State.pulse, Cfg.pulse, Cfg.rowClocks, hidx', hbit', PixelFormat.perByte_eq]
  cases s.cfg.bpp with
  | rgb => rfl
  | mono => simp only; omega

/-- The shifter's registers after its own step. -/
structure Shifted (s : State) (sh : Effect) (t : State) : Prop where
  cfg : t.cfg = s.cfg
  shPhase : t.shPhase = sh.shPhase.getD s.shPhase
  shIdx : t.shIdx = sh.shIdx.getD s.shIdx
  shBit : t.shBit = sh.shBit.getD s.shBit

section
variable {inp : TickIn} {s t : State} {sh : Effect} (hsh : ShiftMove inp s sh) (ht : Shifted s sh t)
include ht

theorem Shifted.pulse_eq (hidx : sh.shIdx = none) (hbit : sh.shBit = none) : t.pulse = s.pulse := by
  rw [State.pulse, State.pulse, ht.cfg, ht.shIdx, ht.shBit, hidx, hbit]
  rfl

/-- The pulse after a clock low, and the phase with it: `SH_DATA` at the next pulse or `SH_EXIT` after the last. -/
theorem Shifted.pulse_after_clklo (hsh : ShiftMove inp s sh) (hrun : stalled inp s = false) (hph : s.shPhase = .clklo)
    (hidx : s.shIdx.toNat < s.cfg.rowLen) (hlen : s.cfg.rowLen < 2 ^ 32) :
    t.shPhase = .data ∧ t.pulse = s.pulse + 1 ∨ t.shPhase = .exit ∧ s.pulse + 1 = s.cfg.rowClocks := by
  have hphase := ht.shPhase
  have hidx' := ht.shIdx
  have hbit' := ht.shBit
  cases hsh with
  | idle h | exit _ h | data _ h | clkhi _ h => exact absurd (hph.symm.trans h) (by decide)
  | stall h => exact absurd (hrun.symm.trans h) (by decide)
  | clklo_bit _ _ hbpp hpos =>
    have hne : s.shBit ≠ 0 := fun h => by simp [h] at hpos
    refine .inl ⟨hphase, ?_⟩
    rw [State.pulse, ht.cfg, hidx', hbit']
    simp only [Option.getD_none, Option.getD_some, toNat_sub_one hne]
    exact Cfg.pulse_next_bit hbpp _ hpos s.shBit.isLt
  | clklo_byte _ _ hbit hmore =>
    refine .inl ⟨hphase, ?_⟩
    have hsucc : (s.shIdx + 1).toNat = s.shIdx.toNat + 1 := by
      rw [BitVec.toNat_add, show (1 : Word).toNat = 1 from rfl, Nat.mod_eq_of_lt (by omega)]
    rw [State.pulse, ht.cfg, hidx', hbit']
    simp only [Option.getD_some, hsucc]
    exact Cfg.pulse_next_byte (fun h => congrArg BitVec.toNat (hbit h)) _
  | clklo_end _ _ hbit hend =>
    exact .inr ⟨hphase, Cfg.pulse_end (fun h => congrArg BitVec.toNat (hbit h)) hidx hend⟩

/-- R117, R118(e): a tick that is not held by a stall is one of the transfer's. -/
theorem Shifted.ticksLeft (hsh : ShiftMove inp s sh) (hrun : stalled inp s = false) (hbusy : s.shPhase ≠ .idle)
    (hidx : s.shIdx.toNat < s.cfg.rowLen) (hlen : s.cfg.rowLen < 2 ^ 32) : t.ticksLeft + 1 = s.ticksLeft := by
  have hlt : s.pulse < s.cfg.rowClocks := Cfg.pulse_lt hidx _
  have hcfg := ht.cfg
  by_cases hph : s.shPhase = .clklo
  · obtain ⟨hphase, hpulse⟩ | ⟨hphase, hlast⟩ := ht.pulse_after_clklo hsh hrun hph hidx hlen
    · simp only [State.ticksLeft, hphase, hph, hcfg, hpulse]
      omega
    · simp only [State.ticksLeft, hphase, hph]
      omega
  · have hphase := ht.shPhase
    cases hsh with
    | idle h => exact absurd h hbusy
    | stall h => exact absurd (hrun.symm.trans h) (by decide)
    | clklo_bit _ h | clklo_byte _ h | clklo_end _ h => exact absurd h hph
    | data _ h =>
      have hpulse := ht.pulse_eq rfl rfl
      simp only [Option.getD_some] at hphase
      simp only [State.ticksLeft, hphase, h, hcfg, hpulse]
    | clkhi _ h =>
      have hpulse := ht.pulse_eq rfl rfl
      simp only [Option.getD_some] at hphase
      simp only [State.ticksLeft, hphase, h, hcfg, hpulse]
      omega
    | exit _ h =>
      simp only [Option.getD_some] at hphase
      simp only [State.ticksLeft, hphase, h]

/-- A stalled shifter keeps what is left (R117). -/
theorem Shifted.ticksLeft_of_stall (hsh : ShiftMove inp s sh) (hstall : stalled inp s = true) :
    sh = {} ∧ t.ticksLeft = s.ticksLeft := by
  have hnone : sh = {} := by
    cases hsh with
    | idle | stall => rfl
    | data h | clkhi h | clklo_bit h | clklo_byte h | clklo_end h | exit h =>
      exact absurd (h.symm.trans hstall) (by decide)
  refine ⟨hnone, ?_⟩
  have hpulse := ht.pulse_eq (congrArg Effect.shIdx hnone) (congrArg Effect.shBit hnone)
  rw [State.ticksLeft, State.ticksLeft, hpulse, ht.cfg, ht.shPhase, hnone]
  rfl

end

theorem State.ticksLeft_eq_zero_iff {s : State} (hidx : s.shPhase ≠ .idle → s.shIdx.toNat < s.cfg.rowLen) :
    s.ticksLeft = 0 ↔ s.shPhase = .idle := by
  by_cases hidle : s.shPhase = .idle
  · simp [State.ticksLeft, hidle]
  · have hlt : s.pulse < s.cfg.rowClocks := Cfg.pulse_lt (hidx hidle) _
    refine iff_of_false (fun h => ?_) hidle
    cases hph : s.shPhase with
    | idle => exact hidle hph
    | data | clkhi | clklo | exit =>
      simp only [State.ticksLeft, hph] at h
      omega

/-- The last tick of a transfer is `SH_EXIT`'s (R115). -/
theorem State.exit_of_ticksLeft {s : State} (hidx : s.shIdx.toNat < s.cfg.rowLen) (h : s.ticksLeft = 1) :
    s.shPhase = .exit := by
  have hlt : s.pulse < s.cfg.rowClocks := Cfg.pulse_lt hidx _
  cases hph : s.shPhase with
  | exit => rfl
  | idle => simp [State.ticksLeft, hph] at h
  | data | clkhi | clklo =>
    simp only [State.ticksLeft, hph] at h
    omega

/-! ## A tick with a transfer in flight -/

theorem shifted_of_leaves {s : State} {sh c ho : Effect} (hrun : s.phase ≠ .idle) (hm : Moves s sh c ho)
    (hleave : c.LeavesShifter) : Shifted s.beginTick sh (s.beginTick.next sh c ho) where
  cfg := next_cfg_of_running (s := s.beginTick) hrun hm.host
  shPhase := hleave.next_shPhase sh ho
  shIdx := hleave.next_shIdx sh ho
  shBit := hleave.next_shBit sh ho

theorem Inv.running_of_busy {s : State} (hs : Inv s) (hbusy : s.shPhase ≠ .idle) : s.phase ≠ .idle := fun h =>
  hbusy (hs.shIdle_of_phase (.inl (h ▸ rfl)))

theorem Inv.ticksLeft_eq_zero_iff {s : State} (hs : Inv s) : s.ticksLeft = 0 ↔ s.shPhase = .idle :=
  State.ticksLeft_eq_zero_iff fun h => by
    obtain ⟨-, -, hidx⟩ := hs.transfer_lt h
    exact hidx

theorem Inv.rowLen_lt {s : State} (hs : Inv s) : s.cfg.rowLen < 2 ^ 32 :=
  (hs.legal.rowLen_le hs.params_legal).trans_lt (by decide)

/-- A transfer is ended by its last tick, and by no other. -/
theorem next_evDone_of_exit {inp : TickIn} {s : State} {sh c ho : Effect} (hleave : c.LeavesShifter)
    (hsh : ShiftMove inp s sh) (hrun : stalled inp s = false) (hph : s.shPhase = .exit) :
    (s.next sh c ho).shPhase = .idle ∧ (s.next sh c ho).evDone = true := by
  rw [hleave.next_shPhase, hleave.next_evDone]
  cases hsh with
  | exit => exact ⟨rfl, rfl⟩
  | stall h => exact absurd (hrun.symm.trans h) (by decide)
  | idle h | data _ h | clkhi _ h | clklo_bit _ h | clklo_byte _ h | clklo_end _ h =>
    exact absurd (hph.symm.trans h) (by decide)

end Sys2Proof.Machine
end

section
/-! PROOFS. One pass of the BCM regime (44_bcm_sequencer.md R131 to R144): one stretch for each of its phases, the
transfer and the two durations of channel BCM giving the lengths of the three waits. -/

namespace Sys2Proof.Machine

/-- A pass in its phase `ph`, under a configuration and for a plane. -/
structure Passing (c : Cfg) (k : Index3) (ph : Phase) (s : State) : Prop where
  live : Live s
  phase : s.phase = ph
  cfg : s.cfg = c
  bit : s.bit = k

section
variable {c : Cfg} {k : Index3} {ph ph' : Phase} {s : State}

theorem Passing.inPhase (h : Passing c k ph s) : InPhase ph s := ⟨h.live, h.phase⟩

theorem Passing.tick (h : Passing c k ph s) (hrun : ph ≠ .idle) {e : Effect}
    (he : effectOf ph.op s.beginTick = .ok e) (hph : e.phase = some ph') (hbit : e.bit = none) :
    ∃ t, step s = .next t ∧ Passing c k ph' t ∧ Tick s e t := by
  obtain ⟨t, hstep, ht, hk⟩ := h.live.tick (h.phase ▸ hrun) (h.phase ▸ he)
  refine ⟨t, hstep, ⟨ht, ?_, hk.cfg.trans h.cfg, ?_⟩, hk⟩
  · rw [hk.phase, hph]
    rfl
  · rw [hk.bit, hbit]
    exact h.bit

/-! ## The transfer -/

/-- R131 to R133: from the event to the transfer. -/
theorem Live.begin_pass (hs : Live s) (hph : s.phase = .waitBit) (hev : s.tBcm.ev = true) :
    ∃ t u v, step s = .next t ∧ InPhase .blank t ∧ step t = .next u ∧ InPhase .shiftGo u ∧ step u = .next v ∧
      Passing s.cfg s.bit .shiftWait v ∧ v.shPhase = .data ∧ v.ticksLeft = s.cfg.xferTicks := by
  have he : effectOf Phase.waitBit.op s.beginTick = .ok { phase := some .blank } := by
    change Except.ok (effWaitBit s.beginTick) = _
    rw [effWaitBit, State.beginTick_tBcm, hev]
  obtain ⟨t, hstep, ht, -⟩ := (Passing.mk hs hph rfl rfl).tick (by decide) he rfl rfl
  obtain ⟨u, hstep', hu, -⟩ := ht.tick (e := effBlank) (by decide) rfl rfl rfl
  have hgo : effectOf u.phase.op u.beginTick = .ok (effShiftGo u.beginTick) := hu.phase ▸ rfl
  have hrun : u.phase ≠ .idle := hu.phase ▸ by decide
  obtain ⟨sh, ho, hm, hstep'', hv⟩ := hu.live.moves hgo
  have hk := tick_of_moves hrun hm
  refine ⟨t, u, _, hstep, ht.inPhase, hstep', hu.inPhase, hstep'',
    ⟨hv, hk.phase, hk.cfg.trans hu.cfg, hk.bit.trans hu.bit⟩, rfl, ?_⟩
  rw [ticksLeft_of_begins hv.inv.legal rfl rfl rfl, hk.cfg, hu.cfg]

/-- R134: the controller waits for the transfer's last tick. -/
theorem Passing.shiftWait {n : Nat} (h : Passing c k .shiftWait s) (hbusy : s.shPhase ≠ .idle)
    (hn : s.ticksLeft = n) :
    ∃ t, Lasts (InPhase .shiftWait) n s t ∧ Passing c k .shiftWait t ∧ t.evDone = true := by
  induction n generalizing s with
  | zero => exact absurd (h.live.inv.ticksLeft_eq_zero_iff.mp hn) hbusy
  | succ n ih =>
    have hnotDone : s.evDone = false := Bool.eq_false_of_not_eq_true fun h' => hbusy (h.live.inv.shIdle_of_done h')
    have hrun : s.phase ≠ .idle := h.phase ▸ by decide
    have he : effectOf s.phase.op s.beginTick = .ok { phase := some .shiftWait } := by
      rw [h.phase]
      change Except.ok (effShiftWait s.beginTick) = _
      rw [effShiftWait, State.beginTick_evDone, hnotDone]
    have hreg : s.cfg.regime = .bcm := h.live.inv.bcm_of_phase (h.phase ▸ rfl)
    have hgo : stalled s.input s.beginTick = false := by simp [stalled, hreg]
    obtain ⟨sh, ho, hm, hstep, ht⟩ := h.live.moves he
    have hk := tick_of_moves hrun hm
    have hleave : Effect.LeavesShifter { phase := some .shiftWait } := ⟨rfl, rfl⟩
    obtain ⟨-, -, hidx⟩ := h.live.inv.transfer_lt hbusy
    have hticks := (shifted_of_leaves hrun hm hleave).ticksLeft hm.shift hgo hbusy hidx h.live.inv.rowLen_lt
    have hpass : Passing c k .shiftWait (s.beginTick.next sh { phase := some .shiftWait } ho) :=
      ⟨ht, hk.phase, hk.cfg.trans h.cfg, hk.bit.trans h.bit⟩
    have hleft : (s.beginTick.next sh { phase := some .shiftWait } ho).ticksLeft = n :=
      Nat.succ.inj (hticks.trans hn)
    cases n with
    | zero =>
      have hexit := State.exit_of_ticksLeft hidx hn
      obtain ⟨-, hdone⟩ := next_evDone_of_exit (ho := ho) hleave hm.shift hgo hexit
      exact ⟨_, lasts_one h.inPhase hstep, hpass, hdone⟩
    | succ n =>
      have hbusy' := ht.inv.ticksLeft_eq_zero_iff.not.mp (hleft ▸ Nat.succ_ne_zero n)
      obtain ⟨t, hlasts, ht', hdone⟩ := ih hpass hbusy' hleft
      exact ⟨t, lasts_succ h.inPhase hstep hlasts, ht', hdone⟩

/-! ## The latch -/

/-- R135, R136: the latch is held for `LATCH_HOLD + 1` ticks. -/
theorem Passing.hold {d : Nat} (h : Passing c k .latHold s) (hdly : s.dly.toNat = d) :
    ∃ t, Lasts (InPhase .latHold) (d + 1) s t ∧ Passing c k .latOff t := by
  induction d generalizing s with
  | zero =>
    have hzero : s.dly = 0 := BitVec.eq_of_toNat_eq hdly
    have he : effectOf Phase.latHold.op s.beginTick = .ok { phase := some .latOff } := by
      change Except.ok (effLatHold s.beginTick) = _
      rw [effLatHold, State.beginTick_dly, if_pos hzero]
    obtain ⟨t, hstep, ht, -⟩ := h.tick (by decide) he rfl rfl
    exact ⟨t, lasts_one h.inPhase hstep, ht⟩
  | succ d ih =>
    have hmore : s.dly ≠ 0 := fun h => by simp [h] at hdly
    have he : effectOf Phase.latHold.op s.beginTick = .ok { dly := some (s.dly - 1), phase := some .latHold } := by
      change Except.ok (effLatHold s.beginTick) = _
      rw [effLatHold, State.beginTick_dly, if_neg hmore]
    obtain ⟨t, hstep, ht, hk⟩ := h.tick (by decide) he rfl rfl
    have hdly' : t.dly.toNat = d := by
      rw [hk.dly, Option.getD_some, toNat_sub_one hmore, hdly]
      rfl
    obtain ⟨u, hlasts, hu⟩ := ih ht hdly'
    exact ⟨u, lasts_succ h.inPhase hstep hlasts, hu⟩

/-- R134, R135: the completion taken up, and the latch raised. -/
theorem Passing.latch (h : Passing c k .shiftWait s) (hdone : s.evDone = true) :
    ∃ t u, step s = .next t ∧ InPhase .latOn t ∧ step t = .next u ∧ Passing c k .latHold u ∧
      u.dly.toNat = c.latchHold := by
  have he : effectOf Phase.shiftWait.op s.beginTick = .ok { doneClear := true, phase := some .latOn } := by
    change Except.ok (effShiftWait s.beginTick) = _
    rw [effShiftWait, State.beginTick_evDone, hdone]
  obtain ⟨t, hstep, ht, -⟩ := h.tick (by decide) he rfl rfl
  obtain ⟨u, hstep', hu, hk⟩ := ht.tick (e := effLatOn t.beginTick) (by decide) rfl rfl rfl
  obtain ⟨-, -, -, -, -, -, ⟨-, -, -, hhold, -⟩, -⟩ := ht.live.inv.legal
  refine ⟨t, u, hstep, ht.inPhase, hstep', hu, ?_⟩
  rw [hk.dly, ← ht.cfg]
  exact Nat.mod_eq_of_lt hhold

/-! ## The dim interval -/

/-- R137 to R139: from the end of the hold to the dim interval. -/
theorem Passing.begin_dim (h : Passing c k .latOff s) :
    ∃ t u v, step s = .next t ∧ InPhase .setLine t ∧ step t = .next u ∧ InPhase .startDim u ∧
      step u = .next v ∧ Passing c k .waitDim v ∧ v.tBcm.DueIn v.cnt (max c.dimTicks 1 - 1) := by
  obtain ⟨t, hstep, ht, -⟩ := h.tick (e := effLatOff) (by decide) rfl rfl rfl
  have hset : effectOf Phase.setLine.op t.beginTick = .ok { addr := some t.line, phase := some .startDim } := by
    change Except.ok (effSetLine t.beginTick) = _
    rw [effSetLine, effLineSelect, lineTable_eq]
    rfl
  obtain ⟨u, hstep', hu, -⟩ := ht.tick (by decide) hset rfl rfl
  have hdim : effectOf Phase.startDim.op u.beginTick =
      .ok { tBcm := { start := some (duration u.cfg.dimTicks) }, phase := some .waitDim } := by
    change Except.ok (effStartDim u.beginTick) = _
    rw [effStartDim, State.beginTick_cfg, Cfg.tcs_nBits]
    rfl
  obtain ⟨v, hstep'', hv, hk⟩ := hu.tick (by decide) hdim rfl rfl
  obtain ⟨-, -, -, -, -, -, ⟨-, -, hshort, -⟩, -⟩ := hu.live.inv.legal
  refine ⟨t, u, v, hstep, ht.inPhase, hstep', hu.inPhase, hstep'', hv, ?_⟩
  rw [hk.tBcm, hk.cnt, ← hu.cfg]
  exact Channel.dueIn_start u.cnt u.tBcm (hshort.trans (by decide))

/-- R140: the dim interval takes one tick at least. -/
theorem Passing.dim (h : Passing c k .waitDim s) (hdue : s.tBcm.DueIn s.cnt (max c.dimTicks 1 - 1)) :
    ∃ t, Lasts (InPhase .waitDim) (max c.dimTicks 1) s t ∧ Passing c k .startBit t := by
  obtain ⟨t, hlasts, ht, hph, hev, hcfg, hbit⟩ := h.live.wait (.inr rfl) h.phase hdue
  have he : effectOf Phase.waitDim.op t.beginTick = .ok { phase := some .startBit } := by
    change Except.ok (effWaitDim t.beginTick) = _
    rw [effWaitDim, State.beginTick_tBcm, hev]
  obtain ⟨u, hstep, hu, -⟩ :=
    (Passing.mk ht hph (hcfg.trans h.cfg) (hbit.trans h.bit)).tick (by decide) he rfl rfl
  have hdim := (hlasts.imp fun v ⟨hv, hvph, _⟩ => (⟨hv, hvph⟩ : InPhase .waitDim v)).snoc ⟨ht, hph⟩ hstep
  rw [Nat.sub_add_cancel (le_max_right _ _)] at hdim
  exact ⟨u, hdim, hu⟩

/-! ## The display -/

/-- R141, R142: from the start of the plane's duration to `ADVANCE`. -/
theorem Passing.display (h : Passing c k .startBit s) {n : Nat} (hn : c.tcs k.toNat = n + 2) :
    ∃ t u, step s = .next t ∧ InPhase .unblank t ∧ step t = .next u ∧ Passing c k .advance u ∧
      u.tBcm.DueIn u.cnt n := by
  obtain ⟨t, hstep, ht, hk⟩ := h.tick (e := effStartBit s.beginTick) (by decide) rfl rfl rfl
  obtain ⟨htcs, -, hfits⟩ := h.live.inv.tcs_bounds
  have hduration : s.cfg.tcs s.bit.toNat = n + 2 := by rw [h.cfg, h.bit, hn]
  have hdue : t.tBcm.DueIn t.cnt (n + 1) := by
    have hstart := Channel.dueIn_start s.cnt s.tBcm (htcs ▸ hfits)
    rw [hduration] at hstart
    rw [hk.tBcm, hk.cnt]
    change (settleChan s.cnt s.tBcm ((oneshotReq s.cnt s.tBcm).join
      { start := some (duration (s.cfg.tcs s.bit.toNat)) })).DueIn (s.cnt + 1) (n + 1)
    rw [hduration]
    exact hstart
  obtain ⟨u, hstep', hu, hk'⟩ := ht.tick (e := effUnblank) (by decide) rfl rfl rfl
  refine ⟨t, u, hstep, ht.inPhase, hstep', hu, ?_⟩
  rw [hk'.tBcm, hk'.cnt]
  exact hdue.tick_pred

end

/-- Between two passes: the next event awaited, or the frame boundary. -/
def BetweenPasses (s : State) : Prop := s.phase = .waitBit ∧ s.tBcm.ev = false ∨ s.phase = .vsync

theorem Live.await_event {s : State} (hs : Live s) {n : Nat} (hph : s.phase = .waitBit)
    (hdue : s.tBcm.DueIn s.cnt n) :
    ∃ t, Lasts BetweenPasses n s t ∧ t.phase = .waitBit ∧ t.tBcm.ev = true := by
  obtain ⟨t, hlasts, -, htph, hev, -⟩ := hs.wait (.inl rfl) hph hdue
  exact ⟨t, hlasts.imp fun v ⟨_, hvph, hvev⟩ => .inl ⟨hvph, hvev⟩, htph, hev⟩

/-- R152: the frame boundary takes one tick of the wait. -/
theorem Live.vsync_then_await {s : State} (hs : Live s) {n : Nat} (hreg : s.cfg.regime = .bcm)
    (hph : s.phase = .vsync) (hdue : s.tBcm.DueIn s.cnt (n + 1)) :
    ∃ t, Lasts BetweenPasses (n + 1) s t ∧ t.phase = .waitBit ∧ t.tBcm.ev = true := by
  have he : effectOf s.phase.op s.beginTick =
      .ok { packEffect s.beginTick with raised := { vsync := true }, phase := some .waitBit } := by
    have hpack : effPack s.beginTick = .ok (packEffect s.beginTick) :=
      effPack_eq_ok_iff.mpr ⟨packFits_of_legal hs.inv.legal, rfl⟩
    rw [hph]
    change effVsync s.beginTick = _
    rw [effVsync, hpack, State.beginTick_cfg, hreg]
    rfl
  obtain ⟨t, hstep, ht, hk⟩ := hs.tick (hph ▸ by decide) he
  have hdue' : t.tBcm.DueIn t.cnt n := by
    rw [hk.tBcm, hk.cnt]
    exact hdue.tick_pred
  obtain ⟨u, hlasts, huph, hev⟩ := ht.await_event hk.phase hdue'
  exact ⟨u, lasts_succ (.inr hph) hstep hlasts, huph, hev⟩

/-- R143: `ADVANCE`, and the wait for the event of the next pass. -/
theorem Passing.next_event {c : Cfg} {k : Index3} {s : State} (h : Passing c k .advance s) {n : Nat}
    (hdue : s.tBcm.DueIn s.cnt (n + 2)) :
    ∃ t u, step s = .next t ∧ Lasts BetweenPasses (n + 1) t u ∧ u.phase = .waitBit ∧ u.tBcm.ev = true := by
  have hreg : s.cfg.regime = .bcm := h.live.inv.bcm_of_phase (h.phase ▸ rfl)
  have he : effectOf s.phase.op s.beginTick = .ok (effAdvance s.beginTick) := h.phase ▸ rfl
  have hasks : (effAdvance s.beginTick).tBcm = {} ∧
      ((effAdvance s.beginTick).phase = some .waitBit ∨ (effAdvance s.beginTick).phase = some .vsync) := by
    unfold effAdvance
    split
    · exact ⟨rfl, .inl rfl⟩
    · split
      · exact ⟨rfl, .inl rfl⟩
      · exact ⟨rfl, .inr rfl⟩
  obtain ⟨hchan, hphase⟩ := hasks
  obtain ⟨t, hstep, ht, hk⟩ := h.live.tick (h.phase ▸ by decide) he
  have hdue' : t.tBcm.DueIn t.cnt (n + 1) := by
    rw [hk.tBcm, hk.cnt, hchan]
    exact hdue.tick_pred
  obtain hwait | hvsync := hphase
  · obtain ⟨u, hu⟩ := ht.await_event (hk.phase.trans (by rw [hwait]; rfl)) hdue'
    exact ⟨t, u, hstep, hu⟩
  · obtain ⟨u, hu⟩ := ht.vsync_then_await (hk.cfg ▸ hreg) (hk.phase.trans (by rw [hvsync]; rfl)) hdue'
    exact ⟨t, u, hstep, hu⟩

/-! ## The schedule -/

/-- The table of R144, row by row. -/
theorem passPhase_elim {c : Cfg} {x h d : Nat} {Q : Nat → Phase → Prop} (hx : c.xferTicks = x)
    (hh : c.latchHold = h) (hd : max c.dimTicks 1 = d) (h0 : Q 0 .waitBit) (h1 : Q 1 .blank) (h2 : Q 2 .shiftGo)
    (hwait : ∀ j, 3 ≤ j → j < 3 + (x + 1) → Q j .shiftWait)
    (hlatOn : ∀ j, 3 + (x + 1) ≤ j → j < 3 + (x + 1) + 1 → Q j .latOn)
    (hhold : ∀ j, 3 + (x + 1) + 1 ≤ j → j < 3 + (x + 1) + 1 + (h + 1) → Q j .latHold)
    (hlatOff : ∀ j, 3 + (x + 1) + 1 + (h + 1) ≤ j → j < 3 + (x + 1) + 1 + (h + 1) + 1 → Q j .latOff)
    (hsetLine : ∀ j, 3 + (x + 1) + 1 + (h + 1) + 1 ≤ j → j < 3 + (x + 1) + 1 + (h + 1) + 1 + 1 → Q j .setLine)
    (hstartDim : ∀ j, 3 + (x + 1) + 1 + (h + 1) + 1 + 1 ≤ j → j < 3 + (x + 1) + 1 + (h + 1) + 1 + 1 + 1 →
      Q j .startDim)
    (hdim : ∀ j, 3 + (x + 1) + 1 + (h + 1) + 1 + 1 + 1 ≤ j → j < 3 + (x + 1) + 1 + (h + 1) + 1 + 1 + 1 + d →
      Q j .waitDim)
    (hstartBit : ∀ j, 3 + (x + 1) + 1 + (h + 1) + 1 + 1 + 1 + d ≤ j →
      j < 3 + (x + 1) + 1 + (h + 1) + 1 + 1 + 1 + d + 1 → Q j .startBit)
    (hunblank : ∀ j, 3 + (x + 1) + 1 + (h + 1) + 1 + 1 + 1 + d + 1 ≤ j →
      j < 3 + (x + 1) + 1 + (h + 1) + 1 + 1 + 1 + d + 1 + 1 → Q j .unblank)
    (hadvance : Q (c.passOverhead + 2) .advance) {j : Nat} (hj : j ≤ c.passOverhead + 2) : Q j (c.passPhase j) := by
  have hover : c.passOverhead = x + h + d + 9 := by rw [Cfg.passOverhead, hx, hh, hd]
  simp only [Cfg.passPhase, hx, hh, hd]
  refine iteInduction (motive := Q j) (fun g => g ▸ h0) fun g0 => ?_
  refine iteInduction (motive := Q j) (fun g => g ▸ h1) fun g1 => ?_
  refine iteInduction (motive := Q j) (fun g => g ▸ h2) fun g2 => ?_
  refine iteInduction (motive := Q j) (fun g => hwait j (by omega) (by omega)) fun g3 => ?_
  refine iteInduction (motive := Q j) (fun g => hlatOn j (by omega) (by omega)) fun g4 => ?_
  refine iteInduction (motive := Q j) (fun g => hhold j (by omega) (by omega)) fun g5 => ?_
  refine iteInduction (motive := Q j) (fun g => hlatOff j (by omega) (by omega)) fun g6 => ?_
  refine iteInduction (motive := Q j) (fun g => hsetLine j (by omega) (by omega)) fun g7 => ?_
  refine iteInduction (motive := Q j) (fun g => hstartDim j (by omega) (by omega)) fun g8 => ?_
  refine iteInduction (motive := Q j) (fun g => hdim j (by omega) (by omega)) fun g9 => ?_
  refine iteInduction (motive := Q j) (fun g => hstartBit j (by omega) (by omega)) fun g10 => ?_
  refine iteInduction (motive := Q j) (fun g => hunblank j (by omega) (by omega)) fun g11 => ?_
  obtain rfl : j = c.passOverhead + 2 := by omega
  exact hadvance

theorem Lasts.phase_during {ph : Phase} {m a j : Nat} {u v r : State} (h : Lasts (InPhase ph) m u v)
    (hr : run a r = .next u) (ha : a ≤ j) (hj : j < a + m) : ∃ t, run j r = .next t ∧ t.phase = ph := by
  obtain ⟨t, ht, -, htph⟩ := h.during hr ha hj
  exact ⟨t, ht, htph⟩

/-- R144: the stretches of a pass, end to end, up to `ADVANCE`. -/
theorem Live.pass_schedule {s : State} (hs : Live s) (hph : s.phase = .waitBit) (hev : s.tBcm.ev = true) {n : Nat}
    (hn : s.cfg.tcs s.bit.toNat = n + 2) :
    (∀ j, j ≤ s.cfg.passOverhead + 2 → ∃ t, run j s = .next t ∧ t.phase = s.cfg.passPhase j) ∧
      ∃ t, run (s.cfg.passOverhead + 2) s = .next t ∧ Passing s.cfg s.bit .advance t ∧ t.tBcm.DueIn t.cnt n := by
  obtain ⟨s₁, s₂, s₃, hstep₀, h₁, hstep₁, h₂, hstep₂, h₃, hdata, hleft⟩ := hs.begin_pass hph hev
  obtain ⟨s₄, hshift, h₄, hdone⟩ := h₃.shiftWait (by rw [hdata]; decide) hleft
  obtain ⟨s₅, s₆, hstep₄, h₅, hstep₅, h₆, hdly⟩ := h₄.latch hdone
  obtain ⟨s₇, hhold, h₇⟩ := h₆.hold hdly
  obtain ⟨s₈, s₉, s₁₀, hstep₇, h₈, hstep₈, h₉, hstep₉, h₁₀, hdue⟩ := h₇.begin_dim
  obtain ⟨s₁₁, hdim, h₁₁⟩ := h₁₀.dim hdue
  obtain ⟨s₁₂, s₁₃, hstep₁₁, h₁₂, hstep₁₂, h₁₃, hdue'⟩ := h₁₁.display hn
  have hwait := hshift.snoc h₄.inPhase hstep₄
  have hlatOn : Lasts (InPhase .latOn) 1 s₅ s₆ := lasts_one h₅ hstep₅
  have hlatOff : Lasts (InPhase .latOff) 1 s₇ s₈ := lasts_one h₇.inPhase hstep₇
  have hsetLine : Lasts (InPhase .setLine) 1 s₈ s₉ := lasts_one h₈ hstep₈
  have hstartDim : Lasts (InPhase .startDim) 1 s₉ s₁₀ := lasts_one h₉ hstep₉
  have hstartBit : Lasts (InPhase .startBit) 1 s₁₁ s₁₂ := lasts_one h₁₁.inPhase hstep₁₁
  have hunblank : Lasts (InPhase .unblank) 1 s₁₂ s₁₃ := lasts_one h₁₂ hstep₁₂
  have hrun₂ : run 2 s = .next s₂ := by rw [run_succ hstep₀, run_succ hstep₁, run]
  have hrun₃ : run 3 s = .next s₃ := (lasts_one (P := InPhase .shiftGo) h₂ hstep₂).run_eq hrun₂
  have hrun₅ := hwait.run_eq hrun₃
  have hrun₆ := hlatOn.run_eq hrun₅
  have hrun₇ := hhold.run_eq hrun₆
  have hrun₈ := hlatOff.run_eq hrun₇
  have hrun₉ := hsetLine.run_eq hrun₈
  have hrun₁₀ := hstartDim.run_eq hrun₉
  have hrun₁₁ := hdim.run_eq hrun₁₀
  have hrun₁₂ := hstartBit.run_eq hrun₁₁
  have hrun₁₃ : run (s.cfg.passOverhead + 2) s = .next s₁₃ := by
    rw [← hunblank.run_eq hrun₁₂, Cfg.passOverhead]
    congr 1
    omega
  refine ⟨fun j hj => ?_, s₁₃, hrun₁₃, h₁₃, hdue'⟩
  refine passPhase_elim (Q := fun j ph => ∃ t, run j s = .next t ∧ t.phase = ph) rfl rfl rfl ⟨s, rfl, hph⟩
    ⟨s₁, run_succ hstep₀ 0, h₁.2⟩ ⟨s₂, hrun₂, h₂.2⟩ (fun _ => hwait.phase_during hrun₃)
    (fun _ => hlatOn.phase_during hrun₅) (fun _ => hhold.phase_during hrun₆)
    (fun _ => hlatOff.phase_during hrun₇) (fun _ => hsetLine.phase_during hrun₈)
    (fun _ => hstartDim.phase_during hrun₉) (fun _ => hdim.phase_during hrun₁₀)
    (fun _ => hstartBit.phase_during hrun₁₁) (fun _ => hunblank.phase_during hrun₁₂)
    ⟨s₁₃, hrun₁₃, h₁₃.phase⟩ hj

/-- Settles O24. -/
theorem bcmPassSchedule : Obligations.BcmPassSchedule := by
  rintro s ⟨hs, hrst, hph, hev⟩
  obtain ⟨htcs, hlong, -⟩ := hs.tcs_bounds
  obtain ⟨n, hn⟩ : ∃ n, s.cfg.tcs s.bit.toNat = n + 4 := Nat.exists_eq_add_of_le' (htcs ▸ hlong)
  obtain ⟨hbefore, t, hrun, ht, hdue⟩ := Live.pass_schedule ⟨hs, hrst⟩ hph hev hn
  obtain ⟨u, v, hstep, hwait, hvph, hvev⟩ := ht.next_event hdue
  have hrun' : run (s.cfg.passOverhead + 3) s = .next u := (run_add hrun 1).trans (run_succ hstep 0)
  refine ⟨hbefore, fun j hlo hhi => hwait.during hrun' (by omega) (by omega), v, ?_, hvph, hvev⟩
  rw [← hwait.run_eq hrun', hn]
  congr 1
  omega

end Sys2Proof.Machine
end

section
/-! PROOFS. A transfer as the panel sees it (42_shifter.md R118; 20_memory.md R52): the values of the row's pulses, one
sampled on each rising clock, whatever stalls lie between. -/

namespace Sys2Proof.Machine

/-! ## The values of a row -/

/-- The value on the data wires at a pulse of the row. -/
def State.clockValue (s : State) (i : Nat) : Byte :=
  let byte := fun n => (s.bank s.shBank).read (bpbOff s.cfg s.shLine.toNat s.shPlane.toNat n)
  match s.cfg.bpp with
  | .rgb => byte i
  | .mono => (BitVec.ofBool ((byte (i / 8)).getLsbD (7 - i % 8))).setWidth 8

/-- The values of the first pulses of a row. -/
def firstValues (v : Nat → Byte) (k : Nat) : List Byte := (List.range k).map v

theorem firstValues_succ (v : Nat → Byte) (k : Nat) : firstValues v (k + 1) = firstValues v k ++ [v k] := by
  simp [firstValues, List.range_succ]

/-- Bytes sent bit 7 first. -/
theorem flatMap_serialBits (byte : Nat → Byte) (n : Nat) :
    ((List.range n).map byte).flatMap serialBits =
      firstValues (fun i => (BitVec.ofBool ((byte (i / 8)).getLsbD (7 - i % 8))).setWidth 8) (8 * n) := by
  induction n with
  | zero => rfl
  | succ n ih =>
    have hlast : (List.range 8).map (fun j => (BitVec.ofBool ((byte ((8 * n + j) / 8)).getLsbD
        (7 - (8 * n + j) % 8))).setWidth 8) = serialBits (byte n) := by
      refine (List.map_congr_left fun j hj => ?_).trans
        (rfl : (List.range 8).map (fun j => (BitVec.ofBool ((byte n).getLsbD (7 - j))).setWidth 8) = _)
      have hj8 : j < 8 := List.mem_range.mp hj
      rw [show (8 * n + j) / 8 = n by omega, show (8 * n + j) % 8 = j by omega]
    rw [List.range_succ, List.map_append, List.flatMap_append, ih, Nat.mul_succ, firstValues, firstValues,
      List.range_add, List.map_append, List.map_map]
    simp only [List.map_cons, List.map_nil, List.flatMap_cons, List.flatMap_nil, List.append_nil]
    rw [← hlast]
    rfl

theorem State.rowClocked_eq (s : State) : s.rowClocked = firstValues s.clockValue s.cfg.rowClocks := by
  unfold State.rowClocked Cfg.rowClocks State.clockValue
  cases hbpp : s.cfg.bpp with
  | rgb => rfl
  | mono => exact flatMap_serialBits _ _

/-- R112: what `SH_DATA` puts on the wires. -/
theorem State.wireData_eq (s : State) :
    wireData s.cfg ((s.bank s.shBank).read s.shOff) s.shBit = s.clockValue s.pulse := by
  unfold wireData State.clockValue State.pulse Cfg.pulse
  cases hbpp : s.cfg.bpp with
  | rgb => rfl
  | mono =>
    have hbit := s.shBit.isLt
    have hbyte : (8 * s.shIdx.toNat + (7 - s.shBit.toNat)) / 8 = s.shIdx.toNat := by omega
    have hplace : 7 - (8 * s.shIdx.toNat + (7 - s.shBit.toNat)) % 8 = s.shBit.toNat := by omega
    simp only [hbyte, hplace]
    rfl

/-! ## What the panel has received -/

/-- A transfer of the values `v` to a panel that held `sr`, before the panel sees the port of the state. -/
def Received (v : Nat → Byte) (sr : List Byte) (p : Panel) (s : State) : Prop :=
  match s.shPhase with
  | .idle => False
  | .data => p.sr = sr ++ firstValues v s.pulse
  | .clkhi => p.prevClk = false ∧ p.sr = sr ++ firstValues v s.pulse ∧ s.port.data = v s.pulse
  | .clklo =>
    s.port.data = v s.pulse ∧
      (p.prevClk = false ∧ p.sr = sr ++ firstValues v s.pulse ∨
        p.prevClk = true ∧ p.sr = sr ++ firstValues v (s.pulse + 1))
  | .exit => p.sr = sr ++ firstValues v s.cfg.rowClocks

/-- The same after the panel has seen the port of the state. -/
def Observed (v : Nat → Byte) (sr : List Byte) (p : Panel) (s : State) : Prop :=
  match s.shPhase with
  | .idle => False
  | .data => p.prevClk = false ∧ p.sr = sr ++ firstValues v s.pulse
  | .clkhi => p.prevClk = false ∧ p.sr = sr ++ firstValues v s.pulse ∧ s.port.data = v s.pulse
  | .clklo => p.prevClk = true ∧ p.sr = sr ++ firstValues v (s.pulse + 1) ∧ s.port.data = v s.pulse
  | .exit => p.sr = sr ++ firstValues v s.cfg.rowClocks

theorem Panel.observe_low {p : Panel} {port : Port} (hclk : port.clk = false) (hlat : port.lat = false) :
    p.observe port = { p with prevClk := false } := by
  simp [Panel.observe, hclk, hlat]

theorem Panel.observe_rise {p : Panel} {port : Port} (hclk : port.clk = true) (hlat : port.lat = false)
    (hprev : p.prevClk = false) :
    p.observe port = { p with sr := p.sr ++ [port.data], prevClk := true } := by
  simp [Panel.observe, hclk, hlat, hprev]

theorem Panel.observe_high {p : Panel} {port : Port} (hclk : port.clk = true) (hlat : port.lat = false)
    (hprev : p.prevClk = true) : p.observe port = p := by
  obtain ⟨sr, ol, prev⟩ := p
  cases hprev
  simp [Panel.observe, hclk, hlat]

/-- R52: one sample on each rising clock, none where a stall holds the clock high. -/
theorem Received.observe {v : Nat → Byte} {sr : List Byte} {p : Panel} {s : State} (h : Received v sr p s)
    (hclk : s.port.clk = true ↔ s.shPhase = .clklo) (hlat : s.port.lat = false) :
    Observed v sr (p.observe s.port) s ∧ (p.observe s.port).ol = p.ol := by
  unfold Received at h
  unfold Observed
  cases hph : s.shPhase with
  | idle => rw [hph] at h; exact h.elim
  | data | clkhi | exit =>
    have hlow : s.port.clk = false := Bool.eq_false_of_not_eq_true fun hhigh => by simp [hclk.mp hhigh] at hph
    rw [Panel.observe_low hlow hlat]
    simp_all
  | clklo =>
    have hhigh : s.port.clk = true := hclk.mpr hph
    rw [hph] at h
    obtain ⟨hdata, ⟨hprev, hsr⟩ | ⟨hprev, hsr⟩⟩ := h
    · rw [Panel.observe_rise hhigh hlat hprev]
      exact ⟨⟨rfl, by rw [hsr, hdata, firstValues_succ, List.append_assoc], hdata⟩, rfl⟩
    · rw [Panel.observe_high hhigh hlat hprev]
      exact ⟨⟨hprev, hsr, hdata⟩, rfl⟩

/-- A tick of the shifter, with the data wires it leaves. -/
theorem Observed.next {inp : TickIn} {v : Nat → Byte} {sr : List Byte} {p : Panel} {s t : State} {sh : Effect}
    (h : Observed v sr p s) (hsh : ShiftMove inp s sh) (ht : Shifted s sh t)
    (hdata : t.port.data = sh.shData.getD s.port.data) (hv : s.clockValue = v)
    (hidx : s.shIdx.toNat < s.cfg.rowLen) (hlen : s.cfg.rowLen < 2 ^ 32) (hbusy : t.shPhase ≠ .idle) :
    Received v sr p t := by
  have hphase := ht.shPhase
  have hcfg := ht.cfg
  unfold Observed at h
  by_cases hclklo : stalled inp s = false ∧ s.shPhase = .clklo
  · obtain ⟨hrun, hph⟩ := hclklo
    rw [hph] at h
    obtain ⟨-, hsr, -⟩ := h
    obtain ⟨hnext, hpulse⟩ | ⟨hnext, hlast⟩ := ht.pulse_after_clklo hsh hrun hph hidx hlen
    · simp only [Received, hnext, hpulse]
      exact hsr
    · simp only [Received, hnext, hcfg, ← hlast]
      exact hsr
  · cases hsh with
    | idle hph | exit _ hph => exact absurd (by simpa using hphase.trans (by simp [hph])) hbusy
    | clklo_bit hrun hph | clklo_byte hrun hph | clklo_end hrun hph => exact absurd ⟨hrun, hph⟩ hclklo
    | stall =>
      have hpulse := ht.pulse_eq rfl rfl
      simp only [Option.getD_none] at hphase hdata
      unfold Received
      rw [hphase, hdata, hpulse, hcfg]
      cases hph : s.shPhase <;> rw [hph] at h <;> simp_all
    | data _ hph =>
      have hpulse := ht.pulse_eq rfl rfl
      simp only [Option.getD_some] at hphase hdata
      rw [s.wireData_eq, hv] at hdata
      rw [hph] at h
      obtain ⟨hprev, hsr⟩ := h
      simp only [Received, hphase, hpulse]
      exact ⟨hprev, hsr, hdata⟩
    | clkhi _ hph =>
      have hpulse := ht.pulse_eq rfl rfl
      simp only [Option.getD_some, Option.getD_none] at hphase hdata
      rw [hph] at h
      obtain ⟨hprev, hsr, hval⟩ := h
      simp only [Received, hphase, hpulse]
      exact ⟨hdata.trans hval, .inl ⟨hprev, hsr⟩⟩

/-! ## No stop in the way -/

/-- No stop is under way or to come that could abort a transfer. -/
def Unstopped (s : State) : Prop :=
  s.cfg.regime = .line → s.phase.stopping = false ∧ s.stopReq = false ∧ NoStop s

theorem Unstopped.beginTick {s : State} (h : Unstopped s) : Unstopped s.beginTick := fun hreg => by
  obtain ⟨hstopping, hreq, hnoStop⟩ := h hreg
  exact ⟨hstopping, hreq, fun inp hin => hnoStop inp (List.mem_of_mem_tail hin)⟩

theorem NoStop.input {s : State} (h : NoStop s) : s.input.hostOp ≠ some (HostWord.write 0x00 2) := by
  unfold State.input
  cases hin : s.inputs with
  | nil => exact nofun
  | cons inp rest => exact h inp (hin ▸ List.mem_cons_self)

/-- A stop begins with a request only (R154). -/
theorem CtrlMove.stopping_after {s : State} {c : Effect} (hc : CtrlMove s c)
    (h : (c.phaseAfter s).stopping = true) : s.phase.stopping = true ∨ s.stopReq = true := by
  cases hc with
  | lStopReq _ hreq => exact .inr hreq
  | lStopWait_idle hph | lStopWait_timeout hph | lStopWait_more hph => exact .inl (hph ▸ rfl)
  | idle | lNop => exact .inl h
  | lineTick_start =>
    unfold Effect.phaseAfter at h
    split at h <;> cases h
  | _ => cases h

theorem Unstopped.next {s : State} {sh c ho : Effect} (h : Unstopped s) (hrun : s.phase ≠ .idle)
    (hm : Moves s sh c ho) : Unstopped (s.beginTick.next sh c ho) := by
  intro hreg
  have hk := tick_of_moves hrun hm
  obtain ⟨hstopping, hreq, hnoStop⟩ := h (hk.cfg ▸ hreg)
  refine ⟨?_, ?_, fun inp hin => hnoStop inp (List.mem_of_mem_tail hin)⟩
  · refine Bool.eq_false_of_not_eq_true fun hafter => ?_
    rw [next_phase_of_running (s := s.beginTick) hrun hm.host] at hafter
    obtain hnow | hnow := hm.ctrl.stopping_after hafter
    · exact Bool.false_ne_true (hstopping.symm.trans hnow)
    · exact Bool.false_ne_true (hreq.symm.trans hnow)
  · rw [State.next_stopReq]
    obtain hho | ⟨-, hop⟩ := hm.host.stopReq_cases
    · obtain ⟨hc, -⟩ | ⟨-, hc⟩ := hm.ctrl.stopReq_cases
      · rw [hc, hho]
        exact hreq
      · rw [hc]
        rfl
    · exact absurd hop hnoStop.input

/-- Without a stop the controller leaves a transfer in flight to itself (R156, R164). -/
theorem CtrlMove.leaves_of_unstopped {s : State} {c : Effect} (hs : Inv s) (hc : CtrlMove s c)
    (hbusy : s.shPhase ≠ .idle) (h : Unstopped s) : c.LeavesShifter ∧ c.data = none := by
  have hnotStopping : s.phase.stopping = false := Bool.eq_false_of_not_eq_true fun hstop => by
    have hreg : s.cfg.regime = .line := by
      obtain hph | hph := (Phase.stopping_iff s.phase).mp hstop <;> exact hs.line_of_phase (hph ▸ rfl)
    obtain ⟨hno, -⟩ := h hreg
    exact Bool.false_ne_true (hno.symm.trans hstop)
  have hleave : c.LeavesShifter := by
    obtain hleave | habort | ⟨line, plane, hstart⟩ := hc.shifter_cases hs
    · exact hleave
    · rw [habort.phase] at hnotStopping
      cases hnotStopping
    · exact absurd hstart.shIdle hbusy
  refine ⟨hleave, ?_⟩
  obtain ⟨hdata, -⟩ | ⟨-, -, hph | habort⟩ := hc.wires
  · exact hdata
  · rw [hph] at hnotStopping
    cases hnotStopping
  · exact absurd (hleave.shAbort.symm.trans habort.shAbort) (by decide)

/-! ## The row stays -/

/-- The bank a transfer reads is not written while it lasts (20_memory.md R56). -/
theorem clockValue_next {s : State} {sh c ho : Effect} (hs : Inv s) (hc : CtrlMove s c) (hleave : c.LeavesShifter)
    (hbusy : s.shPhase ≠ .idle) (hcfg : (s.next sh c ho).cfg = s.cfg) :
    (s.next sh c ho).clockValue = s.clockValue := by
  obtain ⟨hbank, hline, hplane⟩ := hleave.next_row (s := s) sh ho
  have hmem : (s.next sh c ho).bank s.shBank = s.bank s.shBank := by
    obtain ⟨hnone, -⟩ | ⟨hph, -, -, hsome⟩ := hc.bank_cases
    · exact next_bank_of_none hnone _
    · have hread : s.shBank = s.rdBank := by
        obtain hprime | hvsync := hph
        · exact absurd (hs.shIdle_of_phase (.inl (hprime ▸ rfl))) hbusy
        · exact hs.shBank_of_vsync hvsync hbusy
      rw [next_bank_of_some hsome, if_neg (by simp [hread])]
  unfold State.clockValue
  rw [hbank, hline, hplane, hcfg, hmem]

/-! ## The transfer -/

/-- A transfer of the values `v` in flight, with the panel that watches it and held `sr` when it began. -/
structure Sending (v : Nat → Byte) (sr : List Byte) (p : Panel) (s : State) : Prop where
  live : Live s
  unstopped : Unstopped s
  busy : s.shPhase ≠ .idle
  values : s.clockValue = v
  received : Received v sr p s

section
variable {v : Nat → Byte} {sr : List Byte} {p : Panel} {s : State}

/-- R117: whether this tick is held. -/
theorem stalled_eq_stallsAt (hbusy : s.shPhase ≠ .idle) : stalled s.input s.beginTick = s.stallsAt 0 := by
  have hin : s.inputs.getD 0 {} = s.input := by
    unfold State.input
    cases s.inputs <;> rfl
  change (s.input.txStall && decide (s.cfg.regime = .line) && decide (s.shPhase ≠ .idle)) =
    (decide (s.cfg.regime = .line) && (s.inputs.getD 0 {}).txStall)
  rw [hin, decide_eq_true hbusy, Bool.and_true, Bool.and_comm]

theorem stallsAt_of_tail {t : State} (hcfg : t.cfg = s.cfg) (hin : t.inputs = s.inputs.tail) (j : Nat) :
    t.stallsAt j = s.stallsAt (j + 1) := by
  rw [State.stallsAt, State.stallsAt, hcfg, hin]
  cases s.inputs <;> rfl

theorem shifterTicks_succ {t : State} (hcfg : t.cfg = s.cfg) (hin : t.inputs = s.inputs.tail) (m : Nat) :
    s.shifterTicks (m + 1) = t.shifterTicks m + if s.stallsAt 0 = true then 0 else 1 := by
  have hlater : ((fun j => !s.stallsAt j) ∘ Nat.succ) = fun j => !t.stallsAt j :=
    funext fun j => congrArg (!·) (stallsAt_of_tail hcfg hin j).symm
  rw [State.shifterTicks, List.range_succ_eq_map, List.countP_cons, List.countP_map, hlater]
  cases s.stallsAt 0 <;> rfl

theorem Phase.latched_cases (ph : Phase) :
    ph.latched = true → ph.latchSeq = true ∨ ph.bcmOnly = true ∧ ph ≠ .shiftWait := by
  cases ph <;> decide

/-- The latch is down while a row is shifted (R206, R207). -/
theorem Inv.lat_of_busy (hs : Inv s) (hbusy : s.shPhase ≠ .idle) : s.port.lat = false :=
  Bool.eq_false_of_not_eq_true fun hlat => by
    obtain hseq | ⟨hbcm, hwait⟩ := Phase.latched_cases s.phase (hs.lat_iff.mp hlat)
    · exact hbusy (hs.shIdle_of_phase (.inr (.inr hseq)))
    · exact hbusy (hs.bcm_shifter (hs.bcm_of_phase hbcm) hwait).1

/-- A tick of the transfer: held, or one of its own. -/
theorem Sending.tick (h : Sending v sr p s) :
    ∃ t, step s = .next t ∧ Live t ∧ t.cfg = s.cfg ∧ t.inputs = s.inputs.tail ∧
      (t.shPhase ≠ .idle → Sending v sr (p.observe s.port) t) ∧
      (s.stallsAt 0 = true → t.ticksLeft = s.ticksLeft) ∧
      (s.stallsAt 0 = false → t.ticksLeft + 1 = s.ticksLeft ∧ (s.ticksLeft = 1 → t.evDone = true)) ∧
      Observed v sr (p.observe s.port) s ∧ (p.observe s.port).ol = p.ol := by
  have hs := h.live.inv
  have hrun := hs.running_of_busy h.busy
  obtain ⟨-, -, hidx⟩ := hs.transfer_lt h.busy
  obtain ⟨c, hc⟩ := effectOf_phaseOp_ok hs.beginTick
  obtain ⟨sh, ho, hm, hstep, ht⟩ := h.live.moves hc
  obtain ⟨hleave, hdata⟩ := hm.ctrl.leaves_of_unstopped hs.beginTick h.busy h.unstopped.beginTick
  have hshift := shifted_of_leaves hrun hm hleave
  have hstall := stalled_eq_stallsAt h.busy
  obtain ⟨hobs, hol⟩ := h.received.observe hs.clk_iff (hs.lat_of_busy h.busy)
  refine ⟨_, hstep, ht, hshift.cfg, rfl, fun hbusy => ?_, fun hheld => ?_, fun hgo => ⟨?_, fun hone => ?_⟩, hobs, hol⟩
  · have hport : (s.beginTick.next sh c ho).port.data = sh.shData.getD s.port.data := by
      rw [State.next_data, hdata]
      rfl
    exact ⟨ht, h.unstopped.next hrun hm, hbusy,
      (clockValue_next hs.beginTick hm.ctrl hleave h.busy hshift.cfg).trans h.values,
      hobs.next (s := s.beginTick) hm.shift hshift hport h.values hidx hs.rowLen_lt hbusy⟩
  · exact (hshift.ticksLeft_of_stall hm.shift (hstall.trans hheld)).2
  · exact hshift.ticksLeft hm.shift (hstall.trans hgo) h.busy hidx hs.rowLen_lt
  · exact (next_evDone_of_exit hleave hm.shift (hstall.trans hgo) (State.exit_of_ticksLeft hidx hone)).2

/-- R118: the tick in which the last of the transfer's ticks passes ends it. -/
theorem Sending.completes {m : Nat} (h : Sending v sr p s) (hm : s.shifterTicks m + 1 = s.ticksLeft)
    (hlast : s.stallsAt m = false) :
    ∃ q t, watch (m + 1) p s = some (q, t) ∧ Live t ∧ t.shPhase = .idle ∧ t.evDone = true ∧
      q.sr = sr ++ firstValues v s.cfg.rowClocks ∧ q.ol = p.ol := by
  induction m generalizing s p with
  | zero =>
    obtain ⟨t, hstep, ht, -, -, -, -, hgo, hobs, hol⟩ := h.tick
    have hone : s.ticksLeft = 1 := hm.symm
    obtain ⟨hleft, hdone⟩ := hgo hlast
    obtain ⟨-, -, hidx⟩ := h.live.inv.transfer_lt h.busy
    have hidle : t.shPhase = .idle := ht.inv.ticksLeft_eq_zero_iff.mp (by omega)
    rw [Observed, State.exit_of_ticksLeft hidx hone] at hobs
    refine ⟨p.observe s.port, t, ?_, ht, hidle, hdone hone, hobs, hol⟩
    simp only [watch, hstep]
  | succ m ih =>
    obtain ⟨t, hstep, ht, hcfg, hin, hsend, hheld, hgo, -, hol⟩ := h.tick
    have hticks : t.shifterTicks m + 1 = t.ticksLeft := by
      have hsucc := shifterTicks_succ hcfg hin m
      cases hstall : s.stallsAt 0 with
      | true =>
        rw [hstall, if_pos rfl] at hsucc
        rw [hheld hstall]
        omega
      | false =>
        rw [hstall, if_neg (by decide)] at hsucc
        obtain ⟨hleft, -⟩ := hgo hstall
        omega
    have hbusy : t.shPhase ≠ .idle := ht.inv.ticksLeft_eq_zero_iff.not.mp (by omega)
    obtain ⟨q, u, hwatch, hu, hidle, hdone, hsr, hol'⟩ :=
      ih (hsend hbusy) hticks ((stallsAt_of_tail hcfg hin m).trans hlast)
    refine ⟨q, u, ?_, hu, hidle, hdone, hcfg ▸ hsr, hol'.trans hol⟩
    rw [watch, hstep]
    exact hwatch

end

/-- Settles O43. -/
theorem transferSendsTheRow : Obligations.TransferSendsTheRow := by
  rintro s p ⟨hs, hrst, hph, hidx, hbit, hstop⟩ hprev m hm hlast
  have hpulse : s.pulse = 0 := by
    rw [State.pulse, hidx, hbit]
    cases hbpp : s.cfg.bpp <;> simp [Cfg.pulse, hbpp]
  have hreceived : Received s.clockValue p.sr p s := by
    simp [Received, hph, hpulse, firstValues]
  have hsend : Sending s.clockValue p.sr p s := ⟨⟨hs, hrst⟩, hstop, hph ▸ by decide, rfl, hreceived⟩
  obtain ⟨q, t, hwatch, ht, hidle, hdone, hsr, hol⟩ :=
    hsend.completes (hm.trans (ticksLeft_of_begins hs.legal hph hidx hbit).symm) hlast
  refine ⟨q, t, hwatch, hidle, hdone, ht.inv.data_zero hidle, ?_, s.rowClocked_eq ▸ hsr, hol⟩
  exact Bool.eq_false_of_not_eq_true fun hclk => by
    have hclklo := ht.inv.clk_iff.mp hclk
    rw [hidle] at hclklo
    cases hclklo

end Sys2Proof.Machine
end

section
/-! PROOFS. The packer (41_packer.md R100 to R105): the bytes its loops write are the image, each of them bit by bit,
and what the image is of a uniform frame. -/

namespace Sys2Proof.Machine

/-! ## The loops -/

theorem bpbOff_eq_add (c : Cfg) (l k i : Nat) : bpbOff c l k i = bpbOff c l k 0 + i := by simp [bpbOff]

theorem bpbOff_succ_plane (c : Cfg) (l k : Nat) : bpbOff c l (k + 1) 0 = bpbOff c l k 0 + c.rowLen := by
  simp only [bpbOff]
  ring

theorem bpbOff_succ_line (c : Cfg) (l : Nat) : bpbOff c (l + 1) 0 0 = bpbOff c l c.nBits 0 := by
  simp only [bpbOff]
  ring

theorem bpbOff_le_of_plane {c : Cfg} {k n : Nat} (l : Nat) (h : k ≤ n) : bpbOff c l k 0 ≤ bpbOff c l n 0 :=
  Nat.add_le_add_right (Nat.mul_le_mul_right _ (Nat.add_le_add_left h _)) _

theorem bpbOff_le_of_line {c : Cfg} {l n : Nat} (h : l ≤ n) : bpbOff c l 0 0 ≤ bpbOff c n 0 0 :=
  Nat.add_le_add_right (Nat.mul_le_mul_right _ (Nat.add_le_add_right (Nat.mul_le_mul_right _ h) _)) _

section
variable (c : Cfg) (fb : Memory)

/-- The planes of a line fill its part of the bank and no other. -/
theorem read_packPlanes_outside {l n x : Nat} {m : Memory} (h : x < bpbOff c l 0 0 ∨ bpbOff c l n 0 ≤ x) :
    (packPlanes c fb l n m).read x = m.read x := by
  induction n with
  | zero => rfl
  | succ n ih =>
    have hsucc := bpbOff_succ_plane c l n
    have hmono := bpbOff_le_of_plane (c := c) l (Nat.zero_le n)
    rw [packPlanes, read_packRow, if_neg (by omega)]
    exact ih (by omega)

theorem read_packPlanes {l k i n : Nat} (hk : k < n) (hi : i < c.rowLen) (m : Memory) :
    (packPlanes c fb l n m).read (bpbOff c l k i) = image c fb l k i := by
  induction n with
  | zero => omega
  | succ n ih =>
    have hoff := bpbOff_eq_add c l k i
    rw [packPlanes, read_packRow]
    obtain rfl | hlt := Nat.eq_or_lt_of_le (Nat.le_of_lt_succ hk)
    · rw [if_pos (by omega), hoff, Nat.add_sub_cancel_left]
    · have hsucc := bpbOff_succ_plane c l k
      have hmono := bpbOff_le_of_plane (c := c) (k := k + 1) l hlt
      rw [if_neg (by omega)]
      exact ih hlt

/-- The lines fill the image's part of the bank and no other. -/
theorem read_packLines_outside {n x : Nat} {m : Memory} (h : bpbOff c n 0 0 ≤ x) :
    (packLines c fb n m).read x = m.read x := by
  induction n with
  | zero => rfl
  | succ n ih =>
    have hsucc := bpbOff_succ_line c n
    have hmono := bpbOff_le_of_plane (c := c) n (Nat.zero_le c.nBits)
    rw [packLines, read_packPlanes_outside c fb (by omega)]
    exact ih (by omega)

theorem read_packLines {l k i n : Nat} (hl : l < n) (hk : k < c.nBits) (hi : i < c.rowLen) (m : Memory) :
    (packLines c fb n m).read (bpbOff c l k i) = image c fb l k i := by
  induction n with
  | zero => omega
  | succ n ih =>
    rw [packLines]
    obtain rfl | hlt := Nat.eq_or_lt_of_le (Nat.le_of_lt_succ hl)
    · exact read_packPlanes c fb hk hi _
    · have hoff := bpbOff_eq_add c l k i
      have hplane := bpbOff_succ_plane c l k
      have hplanes := bpbOff_le_of_plane (c := c) (k := k + 1) l hk
      have hline := bpbOff_succ_line c l
      have hlines := bpbOff_le_of_line (c := c) (l := l + 1) hlt
      rw [read_packPlanes_outside c fb (by omega)]
      exact ih hlt

theorem read_packBank {l k i : Nat} (hl : l < c.nLines) (hk : k < c.nBits) (hi : i < c.rowLen) (m : Memory) :
    (packBank c fb m).read (bpbOff c l k i) = image c fb l k i := read_packLines c fb hl hk hi m

theorem read_packBank_outside {x : Nat} {m : Memory} (h : c.nLines * c.nBits * c.rowLen ≤ x) :
    (packBank c fb m).read x = m.read x :=
  read_packLines_outside c fb (by simpa [bpbOff] using h)

end

/-- Every offset of the image is that of a line, a plane and a position. -/
theorem exists_bpbOff_eq {c : Cfg} {x : Nat} (h : x < c.nLines * c.nBits * c.rowLen) :
    ∃ l k i, l < c.nLines ∧ k < c.nBits ∧ i < c.rowLen ∧ x = bpbOff c l k i := by
  have hrow : 0 < c.rowLen := Nat.pos_of_lt_mul_left h
  have hquot : x / c.rowLen < c.nLines * c.nBits := Nat.div_lt_of_lt_mul (Nat.mul_comm _ c.rowLen ▸ h)
  have hbits : 0 < c.nBits := Nat.pos_of_lt_mul_left hquot
  refine ⟨x / c.rowLen / c.nBits, x / c.rowLen % c.nBits, x % c.rowLen,
    Nat.div_lt_of_lt_mul (Nat.mul_comm _ c.nBits ▸ hquot), Nat.mod_lt _ hbits, Nat.mod_lt _ hrow, ?_⟩
  rw [bpbOff, Nat.div_add_mod', Nat.div_add_mod']

/-! ## `PACK` by itself -/

theorem exec_pack_eq_next_iff {s t : State} :
    exec .pack s = .next t ↔ PackFits s ∧ t = commit s (packEffect s) := by
  rw [exec_eq_next_iff (by decide)]
  change (∃ e, effPack s = .ok e ∧ t = commit s e) ↔ _
  simp only [effPack_eq_ok_iff]
  constructor
  · rintro ⟨e, ⟨hfits, rfl⟩, rfl⟩
    exact ⟨hfits, rfl⟩
  · rintro ⟨hfits, rfl⟩
    exact ⟨_, ⟨hfits, rfl⟩, rfl⟩

/-- The bank not being read is rebuilt, and the banks change roles. -/
theorem commit_packEffect_bank (s : State) (b : Bool) :
    (commit s (packEffect s)).bank b =
      if b = !s.rdBank then packBank s.cfg s.fb (s.bank (!s.rdBank)) else s.bank b := by
  cases b <;> exact settleBank_some _ _ _ _ (e := packEffect s) rfl

/-- Settles O30: the second `PACK` rebuilds the other bank from the same framebuffer. -/
theorem repackingGivesEqualBanks : Obligations.RepackingGivesEqualBanks := by
  intro s t u hfirst hsecond x hx
  obtain ⟨-, rfl⟩ := exec_pack_eq_next_iff.mp hfirst
  obtain ⟨-, rfl⟩ := exec_pack_eq_next_iff.mp hsecond
  obtain ⟨l, k, i, hl, hk, hi, rfl⟩ := exists_bpbOff_eq hx
  have himage : ∀ b, ((commit (commit s (packEffect s)) (packEffect (commit s (packEffect s)))).bank b).read
      (bpbOff s.cfg l k i) = image s.cfg s.fb l k i := by
    intro b
    rw [commit_packEffect_bank]
    have hrd : (commit s (packEffect s)).rdBank = !s.rdBank := rfl
    split
    · exact read_packBank s.cfg s.fb hl hk hi _
    · rename_i hb
      rw [commit_packEffect_bank, if_pos (by rw [hrd] at hb; cases b <;> cases hs : s.rdBank <;> simp_all)]
      exact read_packBank s.cfg s.fb hl hk hi _
  exact (himage false).trans (himage true).symm

/-! ## The image, bit by bit -/

theorem getLsbD_wireByte (r1 g1 b1 r2 g2 b2 : Bool) :
    (wireByte r1 g1 b1 r2 g2 b2).getLsbD 0 = r1 ∧ (wireByte r1 g1 b1 r2 g2 b2).getLsbD 1 = g1 ∧
      (wireByte r1 g1 b1 r2 g2 b2).getLsbD 2 = b1 ∧ (wireByte r1 g1 b1 r2 g2 b2).getLsbD 3 = r2 ∧
      (wireByte r1 g1 b1 r2 g2 b2).getLsbD 4 = g2 ∧ (wireByte r1 g1 b1 r2 g2 b2).getLsbD 5 = b2 ∧
      (wireByte r1 g1 b1 r2 g2 b2).getLsbD 6 = false ∧ (wireByte r1 g1 b1 r2 g2 b2).getLsbD 7 = false := by
  revert r1 g1 b1 r2 g2 b2
  decide

theorem panelOf_eq (c : Cfg) (p : Nat) :
    panelOf c p = (if c.wiring = .vertical then p / c.rows else p % c.cols,
      if c.wiring = .vertical then p % c.rows else p / c.cols) := by
  unfold panelOf
  cases hw : c.wiring <;> simp

theorem getLsbD_imageMono (c : Cfg) (fb : Memory) (l i : Nat) {j : Nat} (hj : j < 8) :
    (imageMono c fb l i).getLsbD j = (fb.read (monoOff c l i)).getLsbD (if c.bitrev = true then 7 - j else j) := by
  unfold imageMono
  cases c.bitrev with
  | true =>
    rw [rev8, BitVec.getLsbD_reverse, BitVec.getMsbD_eq_getLsbD, decide_eq_true hj]
    rfl
  | false => rfl

/-- Settles O27. -/
theorem packRebuildsTheOtherBank : Obligations.PackRebuildsTheOtherBank := by
  intro s hfits
  have hbank : (commit s (packEffect s)).bank (!s.rdBank) = packBank s.cfg s.fb (s.bank (!s.rdBank)) := by
    rw [commit_packEffect_bank, if_pos rfl]
  have himage : ∀ l k i, l < s.cfg.nLines → k < s.cfg.nBits → i < s.cfg.rowLen →
      ((commit s (packEffect s)).bank (!s.rdBank)).read ((l * s.cfg.nBits + k) * s.cfg.rowLen + i) =
        image s.cfg s.fb l k i := fun l k i hl hk hi => by
    rw [hbank]
    exact read_packBank s.cfg s.fb hl hk hi _
  refine ⟨_, exec_pack_eq_next_iff.mpr ⟨hfits, rfl⟩, rfl, himage, fun x hx => ?_, ?_, rfl,
    fun l k i hl hk hi => ?_⟩
  · rw [hbank]
    exact read_packBank_outside s.cfg s.fb hx
  · rw [commit_packEffect_bank, if_neg (by simp)]
  · simp only [himage l k i hl hk hi, image]
    cases s.cfg.bpp with
    | rgb =>
      simp only [imageRgb, rgbCol, rgbRow, panelOf_eq]
      exact getLsbD_wireByte _ _ _ _ _ _
    | mono =>
      intro j hj
      simp only [getLsbD_imageMono _ _ _ _ hj, monoOff, panelOf_eq]

end Sys2Proof.Machine
end

section
/-! PROOFS. What the packed frame shows (41_packer.md R105): the planes of a channel weighted by their powers of two,
and uniform frames. -/

namespace Sys2Proof.Machine

/-! ## The planes of a channel -/

theorem sum_testBit (x m n : Nat) :
    ((List.range n).map fun k => 2 ^ k * (x.testBit (m + k)).toNat).sum = x / 2 ^ m % 2 ^ n := by
  induction n with
  | zero => simp [Nat.mod_one]
  | succ n ih =>
    rw [List.range_succ, List.map_append, List.sum_append, ih, Nat.mod_pow_succ, ← Nat.toNat_testBit,
      Nat.testBit_div_two_pow, Nat.add_comm n m]
    simp

/-- The weighted bits of a byte from bit `8 - n` on. -/
theorem sum_planeBits (b : Byte) {n : Nat} (hn : n ≤ 8) :
    ((List.range n).map fun k => 2 ^ k * (b.getLsbD (8 - n + k)).toNat).sum = b.toNat / 2 ^ (8 - n) := by
  refine (sum_testBit b.toNat (8 - n) n).trans (Nat.mod_eq_of_lt ?_)
  rw [Nat.div_lt_iff_lt_mul (Nat.two_pow_pos _), ← Nat.pow_add, Nat.add_sub_of_le hn]
  exact b.isLt

/-- R102: bits 0 to 2 are the upper half line's channels, bits 3 to 5 the lower's. -/
theorem getLsbD_imageRgb (c : Cfg) (fb : Memory) (l k i : Nat) {ch : Nat} (hch : ch < 3) :
    (imageRgb c fb l k i).getLsbD ch =
        (fb.read (pixelOff c (rgbCol c i) (rgbRow c l i) ch)).getLsbD (planeBit c k) ∧
      (imageRgb c fb l k i).getLsbD (3 + ch) =
        (fb.read (pixelOff c (rgbCol c i) (rgbRow c l i + c.nLines) ch)).getLsbD (planeBit c k) := by
  obtain ⟨h0, h1, h2, h3, h4, h5, -, -⟩ := getLsbD_wireByte
    ((fb.read (pixelOff c (rgbCol c i) (rgbRow c l i) 0)).getLsbD (planeBit c k))
    ((fb.read (pixelOff c (rgbCol c i) (rgbRow c l i) 1)).getLsbD (planeBit c k))
    ((fb.read (pixelOff c (rgbCol c i) (rgbRow c l i) 2)).getLsbD (planeBit c k))
    ((fb.read (pixelOff c (rgbCol c i) (rgbRow c l i + c.nLines) 0)).getLsbD (planeBit c k))
    ((fb.read (pixelOff c (rgbCol c i) (rgbRow c l i + c.nLines) 1)).getLsbD (planeBit c k))
    ((fb.read (pixelOff c (rgbCol c i) (rgbRow c l i + c.nLines) 2)).getLsbD (planeBit c k))
  match ch, hch with
  | 0, _ => exact ⟨h0, h3⟩
  | 1, _ => exact ⟨h1, h4⟩
  | 2, _ => exact ⟨h2, h5⟩

/-- Settles O31. -/
theorem rgbPlanesSumToTheChannel : Obligations.RgbPlanesSumToTheChannel := by
  intro c fb l i ch hbpp _ hbits hch
  have himage : ∀ k, image c fb l k i = imageRgb c fb l k i := fun k => by rw [image, hbpp]
  have hbit := fun k => getLsbD_imageRgb c fb l k i hch
  constructor
  · simp only [himage, hbit]
    exact sum_planeBits _ hbits
  · simp only [himage, hbit]
    exact sum_planeBits _ hbits

/-! ## Uniform frames -/

/-- A legal configuration reads only bytes of the frame. -/
theorem imageReads_lt_fbBytes {p : Params} {c : Cfg} (hc : c.Legal p) {l i a : Nat} (hl : l < c.nLines)
    (hi : i < c.rowLen) (ha : a ∈ imageReads c l i) : a < c.fbBytes := by
  obtain ⟨hlines, hbits, hw, hh, hgeom, ⟨hrgb, hmono, hrow, hbytes, -, hcap⟩, htimes, hticks⟩ := hc
  have hfits : c.Legal { p with fbCap := c.fbBytes } :=
    ⟨hlines, hbits, hw, hh, hgeom, ⟨hrgb, hmono, hrow, hbytes, le_rfl, hcap⟩, htimes, hticks⟩
  have hreads := packReadsExist_of_legal hfits
  simp only [packReadsExist, List.all_eq_true, List.mem_range, decide_eq_true_eq] at hreads
  exact hreads l hl i hi a ha

/-- Settles O32: every byte the image reads is the frame's one value. -/
theorem uniformFramesPackUniformly : Obligations.UniformFramesPackUniformly := by
  intro p c fb l k i hc hl hk hi
  have hreads := fun a => imageReads_lt_fbBytes hc hl hi (a := a)
  have hplane : planeBit c k < 8 := by
    obtain ⟨-, hbits⟩ := hc.nBits_mem
    unfold planeBit
    omega
  unfold image
  cases hbpp : c.bpp with
  | rgb =>
    simp only [imageReads, hbpp, List.mem_cons, List.not_mem_nil, or_false, forall_eq_or_imp, forall_eq] at hreads
    obtain ⟨hr1, hg1, hb1, hr2, hg2, hb2⟩ := hreads
    constructor
    · intro hones
      have hbit : (0xFF : Byte).getLsbD (planeBit c k) = true := by
        generalize planeBit c k = b at hplane
        revert b
        decide
      simp only [imageRgb, hones _ hr1, hones _ hg1, hones _ hb1, hones _ hr2, hones _ hg2, hones _ hb2, hbit]
      rfl
    · intro hzeros
      simp only [imageRgb, hzeros _ hr1, hzeros _ hg1, hzeros _ hb1, hzeros _ hr2, hzeros _ hg2, hzeros _ hb2]
      simp [wireByte]
  | mono =>
    have hmono : monoOff c l i < c.fbBytes := hreads _ (by simp [imageReads, hbpp])
    constructor
    · intro hones
      simp only [imageMono, hones _ hmono]
      cases c.bitrev <;> rfl
    · intro hzeros
      simp only [imageMono, hzeros _ hmono]
      cases c.bitrev <;> rfl

end Sys2Proof.Machine
end

section
/-! PROOFS. The packings as bijections (41_packer.md R105(b), (c)): a framebuffer offset and a position of the frame
are the same digits in two orders. -/

namespace Sys2Proof.Machine

/-! ## Two digits -/

theorem twoDigits_div (a : Nat) {b n : Nat} (hb : b < n) : (a * n + b) / n = a := by
  rw [Nat.mul_comm, Nat.mul_add_div (Nat.zero_lt_of_lt hb), Nat.div_eq_of_lt hb, Nat.add_zero]

theorem twoDigits_mod (a : Nat) {b n : Nat} (hb : b < n) : (a * n + b) % n = b := by
  rw [Nat.mul_comm, Nat.mul_add_mod, Nat.mod_eq_of_lt hb]

theorem twoDigits_inj {a a' b b' n : Nat} (hb : b < n) (hb' : b' < n) (h : a * n + b = a' * n + b') :
    a = a' ∧ b = b' :=
  ⟨by rw [← twoDigits_div a hb, h, twoDigits_div a' hb'], by rw [← twoDigits_mod a hb, h, twoDigits_mod a' hb']⟩

/-- A number below the product of two radices has two digits. -/
theorem exists_twoDigits {x m n : Nat} (h : x < m * n) : ∃ a b, a < m ∧ b < n ∧ x = a * n + b :=
  ⟨x / n, x % n, Nat.div_lt_of_lt_mul (Nat.mul_comm m n ▸ h), Nat.mod_lt _ (Nat.pos_of_lt_mul_left h),
    (Nat.div_add_mod' x n).symm⟩

/-! ## The chain -/

/-- The place in the chain of the panel in a column and a row (41_packer.md R104). -/
def panelAt (c : Cfg) (col row : Nat) : Nat :=
  match c.wiring with
  | .vertical => col * c.rows + row
  | .horizontal => row * c.cols + col

section
variable {c : Cfg}

theorem panelOf_panelAt {col row : Nat} (hcol : col < c.cols) (hrow : row < c.rows) :
    panelOf c (panelAt c col row) = (col, row) := by
  unfold panelOf panelAt
  cases c.wiring with
  | vertical => exact Prod.ext (twoDigits_div col hrow) (twoDigits_mod col hrow)
  | horizontal => exact Prod.ext (twoDigits_mod row hcol) (twoDigits_div row hcol)

theorem panelAt_panelOf (p : Nat) : panelAt c (panelOf c p).1 (panelOf c p).2 = p := by
  unfold panelOf panelAt
  cases c.wiring with
  | vertical => exact Nat.div_add_mod' p c.rows
  | horizontal => exact Nat.div_add_mod' p c.cols

theorem panelAt_lt {col row : Nat} (hcol : col < c.cols) (hrow : row < c.rows) :
    panelAt c col row < c.cols * c.rows := by
  unfold panelAt
  cases c.wiring with
  | vertical => exact twoDigits_lt hcol hrow
  | horizontal => exact Nat.mul_comm c.cols c.rows ▸ twoDigits_lt hrow hcol

/-- R104: every panel of the display has one place in the chain. -/
theorem panelOf_inj {p q : Nat} (h : panelOf c p = panelOf c q) : p = q := by
  rw [← panelAt_panelOf (c := c) p, h, panelAt_panelOf]

end

/-! ## The RGB format -/

/-- The offset of a channel by the digits of its place: panel row, half, line; panel column, column; channel. -/
def channelOff (c : Cfg) (prow : Nat) (half : Bool) (l pcol x ch : Nat) : Nat :=
  ((prow * c.panelH + (half.toNat * c.nLines + l)) * (c.cols * c.panelW) + (pcol * c.panelW + x)) * 3 + ch

theorem pixelOff_eq_channelOff {c : Cfg} (hx : c.xres = c.cols * c.panelW) (l i : Nat) (half : Bool) (ch : Nat) :
    pixelOff c (rgbCol c i) (rgbRow c l i + (if half = true then c.nLines else 0)) ch =
      channelOff c (panelOf c (i / c.panelW)).2 half l (panelOf c (i / c.panelW)).1 (i % c.panelW) ch := by
  have hhalf : (if half = true then c.nLines else 0) = half.toNat * c.nLines := by cases half <;> simp
  rw [hhalf]
  simp only [pixelOff, rgbCol, rgbRow, channelOff, hx]
  ring

theorem boolToNat_inj : ∀ a b : Bool, a.toNat = b.toNat → a = b := by decide

section
variable {c : Cfg} (hh : c.panelH = 2 * c.nLines)
include hh

theorem halfLine_lt (half : Bool) {l : Nat} (hl : l < c.nLines) : half.toNat * c.nLines + l < c.panelH :=
  hh ▸ twoDigits_lt (Bool.toNat_lt half) hl

theorem channelOff_inj {prow prow' l l' pcol pcol' x x' ch ch' : Nat} {half half' : Bool} (hl : l < c.nLines)
    (hl' : l' < c.nLines) (hpcol : pcol < c.cols) (hpcol' : pcol' < c.cols) (hx : x < c.panelW)
    (hx' : x' < c.panelW) (hch : ch < 3) (hch' : ch' < 3)
    (h : channelOff c prow half l pcol x ch = channelOff c prow' half' l' pcol' x' ch') :
    prow = prow' ∧ half = half' ∧ l = l' ∧ pcol = pcol' ∧ x = x' ∧ ch = ch' := by
  obtain ⟨hpixel, hch⟩ := twoDigits_inj hch hch' h
  obtain ⟨hy, hcol⟩ := twoDigits_inj (twoDigits_lt hpcol hx) (twoDigits_lt hpcol' hx') hpixel
  obtain ⟨hprow, hline⟩ := twoDigits_inj (halfLine_lt hh half hl) (halfLine_lt hh half' hl') hy
  obtain ⟨hhalf, hl⟩ := twoDigits_inj hl hl' hline
  obtain ⟨hpcol, hx⟩ := twoDigits_inj hx hx' hcol
  exact ⟨hprow, boolToNat_inj half half' hhalf, hl, hpcol, hx, hch⟩

theorem exists_channelOff {a : Nat} (ha : a < c.rows * c.panelH * (c.cols * c.panelW) * 3) :
    ∃ prow half l pcol x ch, prow < c.rows ∧ l < c.nLines ∧ pcol < c.cols ∧ x < c.panelW ∧ ch < 3 ∧
      a = channelOff c prow half l pcol x ch := by
  obtain ⟨pixel, ch, hpixel, hch, rfl⟩ := exists_twoDigits ha
  obtain ⟨y, col, hy, hcol, rfl⟩ := exists_twoDigits hpixel
  obtain ⟨prow, line, hprow, hline, rfl⟩ := exists_twoDigits hy
  obtain ⟨pcol, x, hpcol, hx, rfl⟩ := exists_twoDigits hcol
  obtain ⟨half, l, hhalf, hl, rfl⟩ := exists_twoDigits (hh ▸ hline)
  obtain ⟨b, rfl⟩ : ∃ b : Bool, b.toNat = half := by
    obtain rfl | rfl : half = 0 ∨ half = 1 := by omega
    · exact ⟨false, rfl⟩
    · exact ⟨true, rfl⟩
  exact ⟨prow, b, l, pcol, x, ch, hprow, hl, hpcol, hx, hch, rfl⟩

end

/-- Settles O34. -/
theorem rgbPackingIsABijection : Obligations.RgbPackingIsABijection := by
  intro p c hc hbpp a ha
  obtain ⟨-, -, -, ⟨hrgbH, -⟩, ⟨hx, hy, -, -, hpanels⟩, ⟨hrgb, -⟩, -⟩ := hc
  obtain ⟨hrow, hbytes⟩ := hrgb hbpp
  have hh := hrgbH hbpp
  have hsize : c.fbBytes = c.rows * c.panelH * (c.cols * c.panelW) * 3 := by
    rw [hbytes, hx, hy]
    ring
  have hlen : c.rowLen = c.cols * c.rows * c.panelW := by
    rw [hrow, hpanels]
    ring
  obtain ⟨prow, half, l, pcol, x, ch, hprow, hl, hpcol, hxlt, hch, rfl⟩ := exists_channelOff hh (hsize ▸ ha)
  refine ⟨(l, panelAt c pcol prow * c.panelW + x, half, ch), ⟨hl, ?_, hch, ?_⟩, ?_⟩
  · exact hlen ▸ twoDigits_lt (panelAt_lt hpcol hprow) hxlt
  · simp only [pixelOff_eq_channelOff hx, twoDigits_div _ hxlt, twoDigits_mod _ hxlt, panelOf_panelAt hpcol hprow]
  · rintro ⟨l', i, half', ch'⟩ ⟨hl', hi, hch', hoff⟩
    simp only at hl' hi hch' hoff ⊢
    have hpanel : i / c.panelW < c.cols * c.rows := Nat.div_lt_of_lt_mul (Nat.mul_comm _ c.panelW ▸ hlen ▸ hi)
    obtain ⟨hcol', -⟩ := panelOf_lt hpanel
    rw [pixelOff_eq_channelOff hx] at hoff
    obtain ⟨hprow', rfl, rfl, hpcol', rfl, rfl⟩ := channelOff_inj hh hl' hl hcol' hpcol
      (Nat.mod_lt _ (Nat.zero_lt_of_lt hxlt)) hxlt hch' hch hoff
    rw [← hprow', ← hpcol', panelAt_panelOf, Nat.div_add_mod']

/-! ## The mono format -/

/-- The bytes to a panel row, and the lines to a scanned line of a panel, of a mono configuration. -/
structure MonoShape (c : Cfg) (bpr groups : Nat) : Prop where
  bpr_eq : c.panelW / 8 = bpr
  groups_eq : c.panelH / c.nLines = groups
  panelH : c.panelH = groups * c.nLines
  xres : c.xres / 8 = c.cols * bpr
  rowLen : c.rowLen = c.cols * c.rows * (groups * bpr)
  fbBytes : c.fbBytes = c.rows * c.panelH * (c.cols * bpr)

theorem exists_monoShape {p : Params} {c : Cfg} (hc : c.Legal p) (hbpp : c.bpp = .mono) :
    ∃ bpr groups, MonoShape c bpr groups := by
  obtain ⟨⟨hlines, -⟩, -, ⟨-, -, hw8⟩, ⟨-, hmonoH⟩, ⟨hx, hy, -, -, hpanels⟩, ⟨-, hmono, -⟩, -⟩ := hc
  obtain ⟨hrow, hbytes⟩ := hmono hbpp
  obtain ⟨bpr, hw⟩ := Nat.dvd_of_mod_eq_zero hw8
  obtain ⟨groups, hh⟩ := Nat.dvd_of_mod_eq_zero (hmonoH hbpp).1
  refine ⟨bpr, groups, by omega, ?_, ?_, ?_, ?_, ?_⟩
  · rw [hh, Nat.mul_div_cancel_left _ hlines]
  · rw [hh, Nat.mul_comm]
  · rw [hx, hw, Nat.mul_left_comm, Nat.mul_div_cancel_left _ (by decide)]
  · have hsize : c.panelW * c.panelH * c.nPanels = 8 * c.nLines * (c.cols * c.rows * (groups * bpr)) := by
      rw [hw, hh, hpanels]
      ring
    rw [hrow, hsize, Nat.mul_div_cancel_left _ (by omega)]
  · have hsize : c.xres * c.yres = 8 * (c.rows * c.panelH * (c.cols * bpr)) := by
      rw [hx, hy, hw]
      ring
    rw [hbytes, hsize, Nat.mul_div_cancel_left _ (by decide)]

/-- The offset of a mono byte by the digits of its place: panel row, group, line; panel column, byte. -/
def monoByteOff (c : Cfg) (bpr prow g l pcol xb : Nat) : Nat :=
  (prow * c.panelH + (g * c.nLines + l)) * (c.cols * bpr) + (pcol * bpr + xb)

section
variable {c : Cfg} {bpr groups : Nat} (hs : MonoShape c bpr groups)
include hs

theorem MonoShape.monoOff_eq (l i : Nat) :
    monoOff c l i = monoByteOff c bpr (panelOf c (i / (groups * bpr))).2 (i % (groups * bpr) / bpr) l
      (panelOf c (i / (groups * bpr))).1 (i % bpr) := by
  simp only [monoOff, monoByteOff, hs.bpr_eq, hs.groups_eq, hs.xres, Nat.add_assoc]

theorem MonoShape.line_lt {g l : Nat} (hg : g < groups) (hl : l < c.nLines) : g * c.nLines + l < c.panelH :=
  hs.panelH ▸ twoDigits_lt hg hl

theorem MonoShape.monoByteOff_inj {prow prow' g g' l l' pcol pcol' xb xb' : Nat} (hg : g < groups)
    (hg' : g' < groups) (hl : l < c.nLines) (hl' : l' < c.nLines) (hpcol : pcol < c.cols) (hpcol' : pcol' < c.cols)
    (hxb : xb < bpr) (hxb' : xb' < bpr)
    (h : monoByteOff c bpr prow g l pcol xb = monoByteOff c bpr prow' g' l' pcol' xb') :
    prow = prow' ∧ g = g' ∧ l = l' ∧ pcol = pcol' ∧ xb = xb' := by
  obtain ⟨hy, hcol⟩ := twoDigits_inj (twoDigits_lt hpcol hxb) (twoDigits_lt hpcol' hxb') h
  obtain ⟨hprow, hline⟩ := twoDigits_inj (hs.line_lt hg hl) (hs.line_lt hg' hl') hy
  obtain ⟨hg, hl⟩ := twoDigits_inj hl hl' hline
  obtain ⟨hpcol, hxb⟩ := twoDigits_inj hxb hxb' hcol
  exact ⟨hprow, hg, hl, hpcol, hxb⟩

theorem MonoShape.exists_monoByteOff {a : Nat} (ha : a < c.fbBytes) :
    ∃ prow g l pcol xb, prow < c.rows ∧ g < groups ∧ l < c.nLines ∧ pcol < c.cols ∧ xb < bpr ∧
      a = monoByteOff c bpr prow g l pcol xb := by
  obtain ⟨y, col, hy, hcol, rfl⟩ := exists_twoDigits (hs.fbBytes ▸ ha)
  obtain ⟨prow, line, hprow, hline, rfl⟩ := exists_twoDigits hy
  obtain ⟨g, l, hg, hl, rfl⟩ := exists_twoDigits (hs.panelH ▸ hline)
  obtain ⟨pcol, xb, hpcol, hxb, rfl⟩ := exists_twoDigits hcol
  exact ⟨prow, g, l, pcol, xb, hprow, hg, hl, hpcol, hxb, rfl⟩

/-- The digits of a position of a mono row. -/
theorem MonoShape.digits_lt {i : Nat} (hi : i < c.rowLen) :
    i / (groups * bpr) < c.cols * c.rows ∧ i % (groups * bpr) / bpr < groups ∧ i % bpr < bpr := by
  rw [hs.rowLen] at hi
  have hppb : 0 < groups * bpr := Nat.pos_of_lt_mul_left hi
  exact ⟨Nat.div_lt_of_lt_mul (Nat.mul_comm _ (groups * bpr) ▸ hi),
    Nat.div_lt_of_lt_mul (Nat.mul_comm groups bpr ▸ Nat.mod_lt i hppb), Nat.mod_lt _ (Nat.pos_of_mul_pos_left hppb)⟩

end

/-- Settles O33. -/
theorem monoPackingIsABijection : Obligations.MonoPackingIsABijection := by
  intro p c hc hbpp
  obtain ⟨bpr, groups, hs⟩ := exists_monoShape hc hbpp
  refine ⟨fun l i hl hi => imageReads_lt_fbBytes hc hl hi (by simp [imageReads, hbpp]), fun a ha => ?_⟩
  obtain ⟨prow, g, l, pcol, xb, hprow, hg, hl, hpcol, hxb, rfl⟩ := hs.exists_monoByteOff ha
  have hplace : g * bpr + xb < groups * bpr := twoDigits_lt hg hxb
  refine ⟨(l, panelAt c pcol prow * (groups * bpr) + (g * bpr + xb)), ⟨hl, ?_, ?_⟩, ?_⟩
  · exact hs.rowLen ▸ twoDigits_lt (panelAt_lt hpcol hprow) hplace
  · have hbyte : (panelAt c pcol prow * (groups * bpr) + (g * bpr + xb)) % bpr = xb := by
      rw [← Nat.mul_assoc, ← Nat.add_assoc, ← Nat.add_mul]
      exact twoDigits_mod _ hxb
    simp only [hs.monoOff_eq, hbyte, twoDigits_div _ hplace, twoDigits_mod _ hplace, twoDigits_div _ hxb,
      panelOf_panelAt hpcol hprow]
  · rintro ⟨l', i⟩ ⟨hl', hi, hoff⟩
    simp only at hl' hi hoff ⊢
    obtain ⟨hpanel, hg', hxb'⟩ := hs.digits_lt hi
    obtain ⟨hcol', -⟩ := panelOf_lt hpanel
    rw [hs.monoOff_eq] at hoff
    obtain ⟨hprow', rfl, rfl, hpcol', rfl⟩ := hs.monoByteOff_inj hg' hg hl' hl hcol' hpcol hxb' hxb hoff
    have hrest : i % (groups * bpr) / bpr * bpr + i % bpr = i % (groups * bpr) := by
      rw [← Nat.mod_mod_of_dvd i (Nat.dvd_mul_left bpr groups)]
      exact Nat.div_add_mod' _ _
    rw [← hprow', ← hpcol', panelAt_panelOf, hrest, Nat.div_add_mod']

end Sys2Proof.Machine
end
